-- ==== Sys2Proof/Word.lean ====
section
/-! DEFINITION. The widths of the block's registers and ports (00_scope.md R8, 30_encoding.md R80): nothing but names. -/

namespace Sys2Proof

/-- `u8` of 00_scope.md R8: a chip register, a CMD word, a time field. -/
abbrev Byte := BitVec 8

/-- `u16` of 00_scope.md R8: ARG, RES, a full year. -/
abbrev Word16 := BitVec 16

/-- The width of TF_IN and TF_OUT (30_encoding.md R80), and of a host port access. -/
abbrev Word64 := BitVec 64

end Sys2Proof
end

