-- ==== Sys2Proof/Syntax.lean ====
section
/-! DEFINITION. The commands of the CMD port (30_encoding.md R82), the host ports (R80), and the statements of the host
programs that drive them (R91, R92). A command word carries no operand: form A reads ARG and form T reads TF_IN (R81). -/

namespace Sys2Proof

/-- The 14 commands of 30_encoding.md R82, in opcode order, one per row of `spec/opcode_table.json`. -/
inductive Instr where
  | read | write | isrunning | getcal | setcal | chippresent | hoursdec
  | bcdenc | bcddec | yeardec | yearenc | haltext | calenc | caldec
deriving DecidableEq, Repr

/-- The three operand forms of 30_encoding.md R81. -/
inductive Form where
  /-- No operand. -/
  | n
  /-- One operand, read from ARG at issue. -/
  | a
  /-- One TimeFields operand, read from TF_IN at issue. -/
  | t
deriving DecidableEq, Repr

/-- The form column of 30_encoding.md R82. -/
def Instr.form : Instr → Form
  | .read | .isrunning | .getcal | .chippresent => .n
  | .write => .t
  | .setcal | .hoursdec | .bcdenc | .bcddec | .yeardec | .yearenc | .haltext | .calenc | .caldec => .a

/-- The six host ports of 30_encoding.md R80. -/
inductive Port where
  | cmd | status | arg | res | tfIn | tfOut
deriving DecidableEq, Repr

/-- One access of the host to a port, named by number (20_memory.md R53; 00_scope.md R10 `PortWrite`, `PortRead`). -/
inductive Access where
  | write (port : Nat) (value : Word64)
  | read (port : Nat)
deriving DecidableEq, Repr

/-- A base statement of a host program once its labels are resolved (30_encoding.md R91). -/
inductive Stmt where
  /-- `cmd`, `out` and `in`: each is one port access. -/
  | access (a : Access)
  /-- `jz0 bit, label`: go to the statement numbered `target` if bit `bit` of the accumulator is 0. -/
  | jz0 (bit : Nat) (target : Nat)
deriving DecidableEq, Repr

/-- A host code label: one the programmer writes, or the fresh label of the k-th `wait` (30_encoding.md R91, R92). -/
inductive Label where
  | user (k : Nat)
  | wait (k : Nat)
deriving DecidableEq, Repr

/-- The seven TimeFields of 30_encoding.md R87, each unsigned and as wide as its field there. -/
structure TimeFields where
  second : Byte
  minute : Byte
  hour : Byte
  weekday : Byte
  day : Byte
  month : Byte
  year : Word16
deriving DecidableEq, Repr

/-- A base statement as written, before its labels are resolved (30_encoding.md R91). -/
inductive AsmLine where
  | cmd (i : Instr)
  | out (port : Nat) (value : Int)
  | input (port : Nat)
  | jz0 (bit : Nat) (target : Label)
  | label (l : Label)
deriving DecidableEq, Repr

/-- A line of host assembler: a base statement or one of the pseudo-instructions of 30_encoding.md R92. -/
inductive PseudoLine where
  | base (l : AsmLine)
  | arg (v : Int)
  | tf (f : TimeFields)
  | wait
  /-- A mnemonic of form N alone: issue it and wait. -/
  | runN (i : Instr)
  /-- A mnemonic of form A with its operand: write ARG, issue and wait. -/
  | runA (i : Instr) (v : Int)
  /-- WRITE with its seven fields: write TF_IN, issue and wait. -/
  | runT (f : TimeFields)
deriving DecidableEq, Repr

end Sys2Proof
end

