-- ==== Sys2Proof/Machine/Ports.lean ====
section
/-! DEFINITION. The host port map of 30_encoding.md R80: numbers, widths and host access. -/

namespace Sys2Proof

/-- The port numbers of 30_encoding.md R80; ports 6 and above do not exist. -/
def Port.ofNumber : Nat → Option Port
  | 0 => some .cmd
  | 1 => some .status
  | 2 => some .arg
  | 3 => some .res
  | 4 => some .tfIn
  | 5 => some .tfOut
  | _ => none

/-- The number of a port (30_encoding.md R80). -/
def Port.number : Port → Nat
  | .cmd => 0
  | .status => 1
  | .arg => 2
  | .res => 3
  | .tfIn => 4
  | .tfOut => 5

/-- The width of a port in bits (30_encoding.md R80). -/
def Port.width : Port → Nat
  | .cmd | .status => 8
  | .arg | .res => 16
  | .tfIn | .tfOut => 64

/-- The host may write this port (30_encoding.md R80, host access). -/
def Port.writable : Port → Bool
  | .cmd | .arg | .tfIn => true
  | .status | .res | .tfOut => false

/-- The host may read this port (30_encoding.md R80, host access). -/
def Port.readable : Port → Bool
  | .cmd => false
  | .status | .arg | .res | .tfIn | .tfOut => true

end Sys2Proof
end

