-- ==== Sys2Proof/WellFormed.lean ====
section
/-! DEFINITION. Which terms are well formed: command words (30_encoding.md R81, R83), port accesses (R80, R83) and host
program lines (R91, R92). An `Instr` has no operand field, so every `Instr` is well formed. -/

namespace Sys2Proof

/-- The MBZ check of 30_encoding.md R81: bits 7:4 of a CMD word must be zero. -/
def CmdWord.mbzClear (c : Byte) : Bool := c.extractLsb' 4 4 == 0#4

/-- The opcode check of 30_encoding.md R83: 0x0 and 0xF are reserved. -/
def CmdWord.opAssigned (c : Byte) : Bool := c.extractLsb' 0 4 != 0x0#4 && c.extractLsb' 0 4 != 0xF#4

/-- A CMD word that is a command: both checks hold (30_encoding.md R83). -/
def CmdWord.wellFormed (c : Byte) : Bool := CmdWord.mbzClear c && CmdWord.opAssigned c

/-- A command carries no operand (30_encoding.md R81), so there is nothing to check in one. -/
def Instr.wellFormed (_ : Instr) : Bool := true

/-- An access that 30_encoding.md R83 does not refuse: the port exists and allows it, and the value fits its width. -/
def Access.wellFormed : Access → Bool
  | .write n v => match Port.ofNumber n with
    | some p => p.writable && decide (v.toNat < 2 ^ p.width)
    | none => false
  | .read n => match Port.ofNumber n with
    | some p => p.readable
    | none => false

/-- A statement of a program of `len` statements: its access is well formed, or its branch stays in the program and tests a
bit the accumulator has. -/
def Stmt.wellFormed (len : Nat) : Stmt → Bool
  | .access a => a.wellFormed
  | .jz0 bit target => decide (bit < 64) && decide (target ≤ len)

/-- A pseudo-instruction names a command of the form its operand has (30_encoding.md R92). -/
def PseudoLine.wellFormed : PseudoLine → Bool
  | .runN i => i.form == .n
  | .runA i _ => i.form == .a
  | .base _ | .arg _ | .tf _ | .wait | .runT _ => true

end Sys2Proof
end

