-- ==== Sys2Proof/Decode.lean ====
section
/-! DEFINITION. The decoder of the 8-bit CMD word, total and rejecting by name (30_encoding.md R84), and the encoder written
from the same table (R82). -/

namespace Sys2Proof

/-- Why a CMD word is Reserved (30_encoding.md R83). -/
inductive DecodeRefusal where
  /-- Bits 7:4 are not zero. -/
  | mbzNotZero
  /-- The opcode is 0x0 or 0xF. -/
  | reservedOpcode
  /-- There is no byte to decode. -/
  | noWord
deriving DecidableEq, Repr

/-- The opcode map of 30_encoding.md R82 on bits 3:0. -/
def decodeOp (op : Nat) : Except DecodeRefusal Instr :=
  match op with
  | 0x1 => .ok .read
  | 0x2 => .ok .write
  | 0x3 => .ok .isrunning
  | 0x4 => .ok .getcal
  | 0x5 => .ok .setcal
  | 0x6 => .ok .chippresent
  | 0x7 => .ok .hoursdec
  | 0x8 => .ok .bcdenc
  | 0x9 => .ok .bcddec
  | 0xA => .ok .yeardec
  | 0xB => .ok .yearenc
  | 0xC => .ok .haltext
  | 0xD => .ok .calenc
  | 0xE => .ok .caldec
  | _ => .error .reservedOpcode

/-- `decode` of 30_encoding.md R84. -/
def decode (c : Byte) : Except DecodeRefusal Instr :=
  if CmdWord.mbzClear c then decodeOp (c.extractLsb' 0 4).toNat else .error .mbzNotZero

/-- Decode the first command of a row of bytes: one byte each, so the length needs no look (30_encoding.md R93). -/
def decodeBytes : List Byte → Except DecodeRefusal (Instr × List Byte)
  | [] => .error .noWord
  | c :: rest => match decode c with
    | .ok i => .ok (i, rest)
    | .error e => .error e

/-- The opcode of a command (30_encoding.md R82). -/
def Instr.opcode : Instr → BitVec 4
  | .read => 0x1#4
  | .write => 0x2#4
  | .isrunning => 0x3#4
  | .getcal => 0x4#4
  | .setcal => 0x5#4
  | .chippresent => 0x6#4
  | .hoursdec => 0x7#4
  | .bcdenc => 0x8#4
  | .bcddec => 0x9#4
  | .yeardec => 0xA#4
  | .yearenc => 0xB#4
  | .haltext => 0xC#4
  | .calenc => 0xD#4
  | .caldec => 0xE#4

/-- `CMD = {0b0000, OP}` (30_encoding.md R82). -/
def encode (i : Instr) : Byte := 0#4 ++ i.opcode

/-- The CMD word whose bits, numbered as the opcode table numbers them, are the low `nbits` bits of `w`; bits above are 0. -/
def tableWord (nbits w : Nat) : Byte := BitVec.ofNat 8 (w % 2 ^ nbits)

/-- The command this decoder reads from a row of `spec/opcode_table.json` whose bits are `w`. -/
def decodeTableWord (nbits w : Nat) : Option Instr :=
  match decodeBytes [tableWord nbits w] with
  | .ok (i, _) => some i
  | .error _ => none

end Sys2Proof
end

