-- ==== Sys2Proof/Config.lean ====
section
/-! DEFINITION. The parameters of 00_scope.md R6: the constants the source fixes, and the free values the spec leaves to
draws. A free value is an opaque constant without a body, so that no proof can learn anything about it. -/

namespace Sys2Proof

/-- DEV_ADDR: "Device bus address is fixed at 0x68" (00_scope.md R6, 20_memory.md R50). -/
def Config.devAddr : Byte := 0x68#8

/-- TIME_BASE: the chip address of the seconds byte (00_scope.md R6). -/
def Config.timeBase : Byte := 0x00#8

/-- TIME_LEN: the number of bytes of the time block (00_scope.md R6). -/
def Config.timeLen : Nat := 7

/-- CAL_ADDR: the chip address of the calibration register (00_scope.md R6). -/
def Config.calAddr : Byte := 0x07#8

/-- YEAR_BASE: the year that the chip's year field 0 denotes (00_scope.md R6). -/
def Config.yearBase : Nat := 2000

/-- CAL_SENTINEL: GETCAL's result when the transport fails (00_scope.md R6, 90_conflicts.md C4). -/
def Config.calSentinel : Word16 := 0x0040#16

/-- `initP` of 10_state.md R20: ChipPresence after the reset that makes the draw of this number. FREE VALUE, log 4. -/
opaque Config.initP : Nat → Bool

/-- `bcdOverflow` of 40_codec.md R121: the BCD byte of a value above 99, one per use. The arguments are the number of the
draw and the value encoded. FREE VALUE, log 5. -/
opaque Config.bcdOverflow : Nat → Nat → Byte

/-- `pre2000Year` of 40_codec.md R124: the year field of a year before 2000, one per use. The arguments are the number of
the draw and the year. FREE VALUE, log 6. -/
opaque Config.pre2000Year : Nat → Word16 → Word16

/-- What the chip register at this address holds when the run starts (20_memory.md R59 item 1, 91_not_in_source.md N6).
FREE VALUE, log 8. -/
opaque Config.chipStart : Nat → Byte

/-- Where the chip's register pointer stands when the run starts (20_memory.md R59 item 1). FREE VALUE, log 8. -/
opaque Config.chipPtrStart : Byte

end Sys2Proof
end

