-- ==== Sys2Proof/Machine/State.lean ====
section
/-! DEFINITION. The state of 10_state.md as plain data: the block, its host ports, the chip of the environment model
(20_memory.md R59), the host that drives the block (30_encoding.md R91) and the acts of all agents not yet taken. -/

namespace Sys2Proof.Machine

/-- The sequencer states of 10_state.md R21. -/
inductive Fsm where
  | idle | rdPtr | rdData | wrP1 | wrP2 | irPtr | irData | gcPtr | gcData | scWr
deriving DecidableEq, Repr

/-- The STATUS.CODE values that are ever written (30_encoding.md R85). -/
inductive Code where
  | none | ok | busErr | shortRead | clockHalted
deriving DecidableEq, Repr

/-- The three transport requests of 20_memory.md R58. -/
inductive Request where
  | ptrWrite (dev reg : Byte)
  | blockWrite (dev start : Byte) (bytes : List Byte)
  | blockRead (dev : Byte) (count : Nat)
deriving DecidableEq, Repr

/-- The transport's responses (20_memory.md R58). -/
inductive Response where
  | ok
  | err
  | bytes (bs : List Byte)
deriving DecidableEq, Repr

/-- The seven raw bytes of chip registers 0x00..0x06 (20_memory.md R52, 41_transactions.md R164). -/
structure TimeBlock where
  seconds : Byte
  minutes : Byte
  hours : Byte
  weekday : Byte
  day : Byte
  month : Byte
  year : Byte
deriving DecidableEq, Repr

/-- How the environment returns one byte of a BlockRead (20_memory.md R59 items 3 and 4): the tick that may come just
before the byte is read, and the byte found where the chip has no register (91_not_in_source.md N3). -/
structure ReadInstant where
  tick : Option TimeBlock
  beyond : Byte
deriving DecidableEq, Repr

/-- The draws of one transport answer (20_memory.md R59 items 2, 3 and 6). -/
inductive Answer where
  /-- A success. A BlockRead returns one byte per instant. `ptrAfter` is where the pointer stands after a block access. -/
  | success (instants : List ReadInstant) (ptrAfter : Byte)
  /-- `Err`. A BlockWrite has applied its first `applied` bytes; a PtrWrite has taken effect if `applied` is not 0. -/
  | failure (applied : Nat) (ptrAfter : Byte)
deriving DecidableEq, Repr

/-- An act of one of the agents of 60_exceptions.md R233, or a block reset. -/
inductive Move where
  /-- The host makes one port access. -/
  | access (a : Access)
  /-- The host executes the next statement of its program (30_encoding.md R91). -/
  | hostRuns
  /-- The transport answers the outstanding request (20_memory.md R58, R59). -/
  | answer (d : Answer)
  /-- The running chip changes its time bytes (20_memory.md R59 item 4). -/
  | tick (t : TimeBlock)
  /-- Another bus master, a second instance of the block among them (60_exceptions.md R233), reads or changes chip registers
  (20_memory.md R59 item 7): `cells` are those it changes, and `ptrAfter` is where its accesses leave the chip's pointer
  (log 13). -/
  | otherMaster (cells : List Host.Cell) (ptrAfter : Byte)
  /-- Block reset (70_reset_and_hazards.md R260). A request it abandons has taken the partial effect drawn here (R261). -/
  | reset (applied : Nat) (ptrAfter : Byte)
deriving DecidableEq, Repr

/-- The spec's reasons for `fault(reason)`, which sets the mark `faulted` and changes nothing else (00_scope.md R10,
60_exceptions.md R228). -/
inductive FaultReason where
  /-- `OperandUnwritten`: a form-A command while ARG holds none, or WRITE while TF_IN holds none. -/
  | operandUnwritten
  /-- `ReadOfNone`: a host read of ARG, RES, TF_IN or TF_OUT while it holds none. -/
  | readOfNone
deriving DecidableEq, Repr

/-- The spec's reasons for `refuse(reason)`, which sets the mark `refused` and changes nothing else (00_scope.md R10,
60_exceptions.md R228). -/
inductive RefusalReason where
  /-- `ReservedCommand`: a CMD word that decodes as Reserved. -/
  | reservedCommand
  /-- `IssueWhileBusy`: a command while fsm is not IDLE. -/
  | issueWhileBusy
  /-- `BadPortAccess`: a read of CMD, a write to STATUS, RES or TF_OUT, a port 6 or above. -/
  | badPortAccess
deriving DecidableEq, Repr

/-- Why a step stops with a fault. What the spec calls a fault stops nothing: it sets a mark (log 1). -/
inductive Fault where
  /-- LAT_SEC holds none when WRITE's phase 2 needs it. Raised by the answer to phase 1 in states that no run reaches
  (`State.Inv` rules them out, log 19). SAFE: the spec gives the step no value. -/
  | latchEmpty
deriving DecidableEq, Repr

/-- Why a step is refused. What the spec calls a refusal stops nothing: it sets a mark (log 1). -/
inductive Refusal where
  /-- An instruction without a meaning yet; no arm of `exec` answers so. SAFE. -/
  | notModelled (mnemonic : String)
  /-- A response that 41_transactions.md R172 says the environment never sends: one while no request is outstanding, or one
  of another kind than the sequencer waits for. Raised by a transport answer. UNSAFE only as R172 itself is, log 15. -/
  | inadmissibleMove
deriving DecidableEq, Repr

/-- A row of byte-addressed chip registers, one cell each (20_memory.md R50). -/
abbrev Memory := List Host.Cell

/-- The canonical form of a `Memory`: addresses strictly rising. What an unlisted address reads as is none, so no cell can
equal it. -/
def Memory.wf : Memory → Bool
  | [] => true
  | [_] => true
  | c :: d :: m => decide (c.1 < d.1) && Memory.wf (d :: m)

/-- The eight chip registers as the run finds them (20_memory.md R59 item 1): free values, log 8. -/
def Memory.start : Memory :=
  [(0, Config.chipStart 0), (1, Config.chipStart 1), (2, Config.chipStart 2), (3, Config.chipStart 3),
   (4, Config.chipStart 4), (5, Config.chipStart 5), (6, Config.chipStart 6), (7, Config.chipStart 7)]

/-- The whole state. A register that "holds no value" is `none`, the spec's own value for it (00_scope.md R8). -/
structure State where
  /-- P, ChipPresence (10_state.md R20). -/
  chipPresence : Bool
  /-- The sequencer (10_state.md R21). -/
  fsm : Fsm
  /-- LAT_SEC, WRITE's phase-2 seconds byte (10_state.md R22). -/
  latSec : Option Byte
  /-- REQ, the outstanding transport request (10_state.md R23). -/
  req : Option Request
  /-- STATUS.DONE (10_state.md R27). -/
  done : Bool
  /-- STATUS.CODE (10_state.md R27, 30_encoding.md R85). -/
  code : Code
  /-- STATUS.TFV (10_state.md R27). -/
  tfv : Bool
  /-- ARG, port 2 (10_state.md R28). -/
  arg : Option Word16
  /-- RES, port 3 (10_state.md R29). -/
  res : Option Word16
  /-- TF_IN, port 4 (10_state.md R30). -/
  tfIn : Option Word64
  /-- TF_OUT, port 5 (10_state.md R31). -/
  tfOut : Option Word64
  /-- The mark a refused step leaves (10_state.md R25). -/
  refused : Bool
  /-- The mark a faulted step leaves (10_state.md R25). -/
  faulted : Bool
  /-- The chip's registers 0x00..0x07 (10_state.md R32 to R37). -/
  chip : Memory
  /-- The chip's register pointer (20_memory.md R59 item 1). -/
  chipPtr : Byte
  /-- The host's accumulator `acc` (30_encoding.md R91). -/
  acc : Word64
  /-- The host's program (30_encoding.md R91). -/
  program : List Stmt
  /-- The host's own program counter, an index into `program` (10_state.md R40). -/
  hostPc : Nat
  /-- MODEL'S OWN: the acts of the agents not yet taken, oldest first (log 2). -/
  moves : List Move
  /-- MODEL'S OWN: how many draws the block has made (log 7). -/
  draws : Nat
deriving DecidableEq, Repr

/-- A fresh launch right after block reset (10_state.md R25, R39; 70_reset_and_hazards.md R260): the block's registers as
the spec says, P the draw `initP`, the chip as the run finds it. -/
def State.reset : State where
  chipPresence := Config.initP 0
  fsm := .idle
  latSec := none
  req := none
  done := false
  code := .none
  tfv := false
  arg := none
  res := none
  tfIn := none
  tfOut := none
  refused := false
  faulted := false
  chip := Memory.start
  chipPtr := Config.chipPtrStart
  acc := 0
  program := []
  hostPc := 0
  moves := []
  draws := 1

end Sys2Proof.Machine
end

