-- ==== Sys2Proof/Machine/Flags.lean ====
section
/-! DEFINITION. STATUS: its CODE numbers (30_encoding.md R85) and the byte the host reads (10_state.md R27). -/

namespace Sys2Proof.Machine

/-- The number of a failure code (30_encoding.md R85). -/
def Code.number : Code → BitVec 3
  | .none => 0#3
  | .ok => 1#3
  | .busErr => 2#3
  | .shortRead => 3#3
  | .clockHalted => 4#3

/-- STATUS.BUSY: a view of fsm with no storage of its own (10_state.md R27). -/
def State.busy (s : State) : Bool := decide (s.fsm ≠ .idle)

/-- STATUS as the host reads it: bits 7:6 are 0, then TFV, CODE, DONE, BUSY (10_state.md R27). -/
def State.status (s : State) : Byte :=
  0#2 ++ BitVec.ofBool s.tfv ++ s.code.number ++ BitVec.ofBool s.done ++ BitVec.ofBool s.busy

end Sys2Proof.Machine
end

