-- ==== Sys2Proof/Machine/Operands.lean ====
section
/-! DEFINITION. Operand assembly (30_encoding.md R88), the TimeFields packing of TF_IN and TF_OUT (R87), and the result
extensions (R86). -/

namespace Sys2Proof

/-- `pack(s, m, h, wd, d, mo, y)` of 30_encoding.md R87. -/
def TimeFields.pack (f : TimeFields) : Word64 :=
  f.year ++ f.month ++ f.day ++ f.weekday ++ f.hour ++ f.minute ++ f.second

/-- Each field of TF_IN at its bits (30_encoding.md R87, R88 form T). -/
def TimeFields.unpack (v : Word64) : TimeFields where
  second := v.extractLsb' 0 8
  minute := v.extractLsb' 8 8
  hour := v.extractLsb' 16 8
  weekday := v.extractLsb' 24 8
  day := v.extractLsb' 32 8
  month := v.extractLsb' 40 8
  year := v.extractLsb' 48 16

end Sys2Proof

namespace Sys2Proof.Machine

/-- A u8 operand: ARG[7:0], the upper byte ignored (30_encoding.md R88). -/
def operandU8 (arg : Word16) : Byte := arg.extractLsb' 0 8

/-- An i8 operand: `ARG[7:0] - 256 * ARG[7]` (30_encoding.md R88, two's complement by 00_scope.md R9, log 23). -/
def operandI8 (arg : Word16) : Int :=
  ((operandU8 arg).toNat : Int) - 256 * ((operandU8 arg).extractLsb' 7 1).toNat

/-- A u16 operand: ARG[15:0] (30_encoding.md R88). -/
def operandU16 (arg : Word16) : Word16 := arg

/-- `zext_16` of a number that fits (30_encoding.md R86). -/
def zext16 (n : Nat) : Word16 := BitVec.ofNat 16 n

/-- `sext_16` of a signed number that fits (30_encoding.md R86). -/
def sext16 (c : Int) : Word16 := BitVec.ofInt 16 c

/-- The bytes of a time block in chip order, byte i for register 0x00 + i (20_memory.md R52). -/
def TimeBlock.toBytes (t : TimeBlock) : List Byte :=
  [t.seconds, t.minutes, t.hours, t.weekday, t.day, t.month, t.year]

end Sys2Proof.Machine
end

