-- ==== Sys2Proof/Machine/Ops.lean ====
section
/-! DEFINITION. The named operations every meaning is written over: chip registers, issue (41_transactions.md R160), finish
(R161), the presence law (R162), the two shapes of a transport response, block reset (70_reset_and_hazards.md R260) and the
port accesses other than CMD (30_encoding.md R80, R83). The block has no traps, so there is no exception entry and no return
from one (60_exceptions.md R225, R226). -/

namespace Sys2Proof.Machine

/-- What a step answers. -/
abbrev Result := Host.Outcome State Fault Refusal

/-- The byte of the chip register at an address; none where the chip has no register. -/
def Memory.read : Memory → Nat → Option Byte
  | [], _ => none
  | (k, b) :: m, a => if k = a then some b else Memory.read m a

/-- Write the chip register at an address; nothing happens where the chip has no register (log 9). -/
def Memory.write : Memory → Nat → Byte → Memory
  | [], _, _ => []
  | (k, v) :: m, a, b => if k = a then (k, b) :: m else (k, v) :: Memory.write m a b

/-- `regs[start + i] <- bs[i]` for every i (20_memory.md R59 item 3). -/
def Memory.writeBytes (m : Memory) (start : Nat) : List Byte → Memory
  | [] => m
  | b :: bs => Memory.writeBytes (Memory.write m start b) (start + 1) bs

/-- Write each of these cells (20_memory.md R59 item 7). -/
def Memory.writeCells (m : Memory) : List Host.Cell → Memory
  | [] => m
  | c :: cs => Memory.writeCells (Memory.write m c.1 c.2) cs

/-- The chip's oscillator is halted exactly while CH, bit 7 of register 0x00, is 1 (10_state.md R32, R38). -/
def State.chipHalted (s : State) : Bool :=
  match s.chip.read 0 with
  | some b => b.extractLsb' 7 1 == 1#1
  | none => false

/-- A tick: a running chip's time bytes take any values, a halted chip's do not change (20_memory.md R59 items 4 and 5). -/
def State.chipTick (t : TimeBlock) (s : State) : State :=
  if s.chipHalted then s else { s with chip := s.chip.writeBytes 0 t.toBytes }

/-- The accesses of another bus master between the block's steps: any chip registers change, and the pointer ends at `p`
(20_memory.md R59 item 7, R60 item 5; log 13). -/
def State.otherAccess (cells : List Host.Cell) (p : Byte) (s : State) : State :=
  { s with chip := s.chip.writeCells cells, chipPtr := p }

/-- `fault(reason)`: the mark `faulted`, and no other change. The reason is the spec's name for the case; no state holds it
(00_scope.md R10, 10_state.md R25, 60_exceptions.md R228). -/
def State.fault (_reason : FaultReason) (s : State) : State :=
  { s with faulted := true }

/-- `refuse(reason)`: the mark `refused`, and no other change. The reason is the spec's name for the case; no state holds it
(00_scope.md R10, 10_state.md R25, 60_exceptions.md R228). -/
def State.refuse (_reason : RefusalReason) (s : State) : State :=
  { s with refused := true }

/-- The next request: `REQ <- r ; fsm <- f` (00_scope.md R10). -/
def State.send (f : Fsm) (r : Request) (s : State) : State :=
  { s with fsm := f, req := some r }

/-- `STATUS.DONE <- 0 ; STATUS.CODE <- NONE`, the end of the common issue part (41_transactions.md R160). -/
def State.beginIssue (s : State) : State :=
  { s with done := false, code := .none }

/-- `finish(code)` (41_transactions.md R161). -/
def State.finish (c : Code) (s : State) : State :=
  { s with code := c, done := true, fsm := .idle, req := none, latSec := none }

/-- The end of a command that finishes in its issue step: RES, DONE and CODE (40_codec.md R131, 41_transactions.md R170). -/
def State.resultAtIssue (r : Word16) (s : State) : State :=
  { s with res := some r, done := true, code := .none }

/-- `RES <- some r`. -/
def State.setRes (r : Word16) (s : State) : State :=
  { s with res := some r }

/-- Count the draws a command makes (00_scope.md R10 `draw()`, log 7). -/
def State.useDraws (n : Nat) (s : State) : State :=
  { s with draws := s.draws + n }

/-- P after a response to a request for `count` bytes, from P before it (41_transactions.md R162). -/
def presenceAfter (count : Nat) (r : Response) (p : Bool) : Bool :=
  match r with
  | .ok => true
  | .err => false
  | .bytes bs => if count ≤ bs.length then true else p

/-- The presence law: a response updates P before anything else (41_transactions.md R162). -/
def State.presence (count : Nat) (r : Response) (s : State) : State :=
  { s with chipPresence := presenceAfter count r s.chipPresence }

/-- Issue of a form-N command: the busy check, then the issue part (41_transactions.md R160). -/
def issueN (s : State) (k : State → State) : Result :=
  if s.fsm = .idle then .next (k s.beginIssue) else .next (s.refuse .issueWhileBusy)

/-- Issue of a form-A command: busy, then ARG, then the issue part (41_transactions.md R160, 40_codec.md R131). -/
def issueA (s : State) (k : Word16 → State → State) : Result :=
  if s.fsm = .idle then
    match s.arg with
    | some a => .next (k a s.beginIssue)
    | none => .next (s.fault .operandUnwritten)
  else .next (s.refuse .issueWhileBusy)

/-- Issue of the form-T command: busy, then TF_IN, then the issue part (41_transactions.md R160). -/
def issueT (s : State) (k : TimeFields → State → State) : Result :=
  if s.fsm = .idle then
    match s.tfIn with
    | some v => .next (k (TimeFields.unpack v) s.beginIssue)
    | none => .next (s.fault .operandUnwritten)
  else .next (s.refuse .issueWhileBusy)

/-- The step at a response to a PtrWrite or a BlockWrite: presence first, then the state's own action. `Bytes` is not
admitted (41_transactions.md R162, R172). -/
def writeResponse (onOk : State → Result) (onErr : State → State) (r : Response) (s : State) : Result :=
  match r with
  | .ok => onOk (s.presence 0 .ok)
  | .err => .next (onErr (s.presence 0 .err))
  | .bytes _ => .refused .inadmissibleMove

/-- The step at a response to a BlockRead of `count` bytes: presence first, then the state's own action. `Ok` is not
admitted (41_transactions.md R162, R172). -/
def readResponse (count : Nat) (onBytes : List Byte → State → State) (onErr : State → State) (r : Response) (s : State) :
    Result :=
  match r with
  | .ok => .refused .inadmissibleMove
  | .err => .next (onErr (s.presence count .err))
  | .bytes bs => .next (onBytes bs (s.presence count (.bytes bs)))

/-- Block reset: every piece of block state at its reset value, P a fresh draw; the marks, the chip and the host keep theirs
(10_state.md R25, R39; 70_reset_and_hazards.md R260). -/
def State.blockReset (s : State) : State :=
  { s with
    chipPresence := Config.initP s.draws
    fsm := .idle
    latSec := none
    req := none
    done := false
    code := .none
    tfv := false
    arg := none
    res := none
    tfIn := none
    tfOut := none
    draws := s.draws + 1 }

/-- What a port holds, zero-extended to the accumulator's width; none where it holds no value, as CMD never does
(10_state.md R26 to R31). -/
def portValue (s : State) : Port → Option Word64
  | .cmd => none
  | .status => some (s.status.setWidth 64)
  | .arg => s.arg.map (BitVec.setWidth 64)
  | .res => s.res.map (BitVec.setWidth 64)
  | .tfIn => s.tfIn
  | .tfOut => s.tfOut

/-- `in PORT`: the host reads a port into its accumulator; no other effect (20_memory.md R55, 30_encoding.md R91). A read of
CMD or of an absent port is refused, a read of a port that holds none faults (60_exceptions.md R228). -/
def portRead (port : Nat) (s : State) : Result :=
  match Port.ofNumber port with
  | none | some .cmd => .next (s.refuse .badPortAccess)
  | some p => match portValue s p with
    | some v => .next { s with acc := v }
    | none => .next (s.fault .readOfNone)

end Sys2Proof.Machine
end

