-- ==== Sys2Proof/Machine/Codec.lean ====
section
/-! DEFINITION. The Codec: its conversion functions (40_codec.md R120 to R128) and its eight commands (R131 to R139). -/

namespace Sys2Proof.Machine

/-- `dec2bcd(n)`: the formula for 0..99 (40_codec.md R120), the draw `bcdOverflow` above (R121). `d` numbers the draw. -/
def dec2bcd (d : Nat) (n : Nat) : Byte :=
  if n ≤ 99 then BitVec.ofNat 8 (((n / 10) <<< 4) ||| (n % 10)) else Config.bcdOverflow d n

/-- `bcd2dec(b) = b[7:4] * 10 + b[3:0]` (40_codec.md R122). -/
def bcd2dec (b : Byte) : Nat := (b.extractLsb' 4 4).toNat * 10 + (b.extractLsb' 0 4).toNat

/-- `yearFromField(f) = 2000 + f` (40_codec.md R123). -/
def yearFromField (f : Nat) : Nat := Config.yearBase + f

/-- `fieldFromYear(y)`: `(y - 2000) mod 100` from 2000 on, the draw `pre2000Year` before (40_codec.md R124). -/
def fieldFromYear (d : Nat) (y : Word16) : Nat :=
  if Config.yearBase ≤ y.toNat then (y.toNat - Config.yearBase) % 100 else (Config.pre2000Year d y).toNat

/-- `halt(b) = b[7]` (40_codec.md R125). -/
def haltBit (b : Byte) : BitVec 1 := b.extractLsb' 7 1

/-- `secs(b) = bcd2dec(b & 0x7F)` (40_codec.md R125). -/
def secsOf (b : Byte) : Nat := bcd2dec (b &&& 0x7F#8)

/-- `hoursOf(b) = bcd2dec(b & 0xBF)` (40_codec.md R126). -/
def hoursOf (b : Byte) : Nat := bcd2dec (b &&& 0xBF#8)

/-- `calEncode(v)`: bits 7:6 are 0, bit 5 is S, bits 4:0 the magnitude `abs(v) & 0x1F` (40_codec.md R127). -/
def calEncode (v : Int) : Byte :=
  0#2 ++ BitVec.ofBool (decide (0 ≤ v)) ++ BitVec.ofNat 5 (v.natAbs &&& 0x1F)

/-- `calDecode(b)`: the magnitude, negated if S is clear; bits 7:6 ignored (40_codec.md R128). -/
def calDecode (b : Byte) : Int :=
  if b.extractLsb' 5 1 = 1#1 then (b.extractLsb' 0 5).toNat else -((b.extractLsb' 0 5).toNat : Int)

/-- A Codec command: `RES <- some f(ARG)`, DONE, CODE = NONE, all in the issue step (40_codec.md R131). -/
def codecCommand (f : Word16 → Word16) (s : State) : Result :=
  issueA s fun a t => t.resultAtIssue (f a)

/-- BCDENC (40_codec.md R132). It makes draw `s.draws`. -/
def execBcdenc (s : State) : Result :=
  issueA s fun a t => (t.resultAtIssue ((dec2bcd t.draws (operandU8 a).toNat).setWidth 16)).useDraws 1

/-- BCDDEC (40_codec.md R133). -/
def execBcddec (s : State) : Result := codecCommand (fun a => zext16 (bcd2dec (operandU8 a))) s

/-- YEARDEC (40_codec.md R134). -/
def execYeardec (s : State) : Result := codecCommand (fun a => zext16 (yearFromField (operandU8 a).toNat)) s

/-- YEARENC (40_codec.md R135). It makes draw `s.draws`. -/
def execYearenc (s : State) : Result :=
  issueA s fun a t => (t.resultAtIssue (zext16 (fieldFromYear t.draws (operandU16 a)))).useDraws 1

/-- HALTEXT: `{0b0000000, halt(b), trunc_8(secs(b))}` (40_codec.md R136). -/
def execHaltext (s : State) : Result :=
  codecCommand (fun a => 0#7 ++ haltBit (operandU8 a) ++ BitVec.ofNat 8 (secsOf (operandU8 a))) s

/-- CALENC (40_codec.md R137). -/
def execCalenc (s : State) : Result := codecCommand (fun a => (calEncode (operandI8 a)).setWidth 16) s

/-- CALDEC (40_codec.md R138). -/
def execCaldec (s : State) : Result := codecCommand (fun a => sext16 (calDecode (operandU8 a))) s

/-- HOURSDEC (40_codec.md R139). -/
def execHoursdec (s : State) : Result := codecCommand (fun a => zext16 (hoursOf (operandU8 a))) s

end Sys2Proof.Machine
end

