-- ==== Sys2Proof/Machine/Transactions.lean ====
section
/-! DEFINITION. The register transaction FSM: the time-block assembler and disassembler (41_transactions.md R163, R164), the
issue step of each FSM command, and the step at each transport response (R165 to R171). -/

namespace Sys2Proof.Machine

/-- `assembleBlock`: the 7-byte phase-1 image and the phase-2 seconds byte, both from one BCD value of the seconds
(41_transactions.md R163). The field at block index i makes draw `d + i`. -/
def assembleBlock (d : Nat) (f : TimeFields) : List Byte × Byte :=
  let e := dec2bcd d f.second.toNat
  ([e ||| 0x80#8,
    dec2bcd (d + 1) f.minute.toNat,
    dec2bcd (d + 2) f.hour.toNat,
    dec2bcd (d + 3) f.weekday.toNat,
    dec2bcd (d + 4) f.day.toNat,
    dec2bcd (d + 5) f.month.toNat,
    dec2bcd (d + 6) (fieldFromYear (d + 6) f.year)],
   e &&& 0x7F#8)

/-- `decodeBlock` (41_transactions.md R164). -/
def decodeBlock (b : TimeBlock) : TimeFields where
  second := BitVec.ofNat 8 (secsOf b.seconds)
  minute := BitVec.ofNat 8 (bcd2dec b.minutes)
  hour := BitVec.ofNat 8 (hoursOf b.hours)
  weekday := BitVec.ofNat 8 (bcd2dec b.weekday)
  day := BitVec.ofNat 8 (bcd2dec b.day)
  month := BitVec.ofNat 8 (bcd2dec b.month)
  year := BitVec.ofNat 16 (yearFromField (bcd2dec b.year))

/-- The first seven bytes of a read, or none if there are fewer; a surplus is ignored (20_memory.md R58). -/
def TimeBlock.ofBytes : List Byte → Option TimeBlock
  | b0 :: b1 :: b2 :: b3 :: b4 :: b5 :: b6 :: _ => some ⟨b0, b1, b2, b3, b4, b5, b6⟩
  | _ => none

/-- READ, issue part (41_transactions.md R165). -/
def execRead (s : State) : Result :=
  issueN s fun t =>
    { t with tfOut := none, tfv := false }.send .rdPtr (.ptrWrite Config.devAddr Config.timeBase)

/-- WRITE, issue part (41_transactions.md R166). It makes draws `s.draws` to `s.draws + 6`. -/
def execWrite (s : State) : Result :=
  issueT s fun f t =>
    let (blk, sec2) := assembleBlock t.draws f
    ({ t with latSec := some sec2 }.send .wrP1 (.blockWrite Config.devAddr Config.timeBase blk)).useDraws 7

/-- ISRUNNING, issue part (41_transactions.md R167). -/
def execIsrunning (s : State) : Result :=
  issueN s fun t => { t with res := none }.send .irPtr (.ptrWrite Config.devAddr Config.timeBase)

/-- GETCAL, issue part (41_transactions.md R168). -/
def execGetcal (s : State) : Result :=
  issueN s fun t => { t with res := none }.send .gcPtr (.ptrWrite Config.devAddr Config.calAddr)

/-- SETCAL, issue part (41_transactions.md R169). -/
def execSetcal (s : State) : Result :=
  issueA s fun a t => t.send .scWr (.blockWrite Config.devAddr Config.calAddr [calEncode (operandI8 a)])

/-- CHIPPRESENT, which finishes in its issue step (41_transactions.md R170). -/
def execChippresent (s : State) : Result :=
  issueN s fun t => t.resultAtIssue (zext16 t.chipPresence.toNat)

/-- RD_PTR at a response (41_transactions.md R165). -/
def stepRdPtr : Response → State → Result :=
  writeResponse (fun t => .next (t.send .rdData (.blockRead Config.devAddr Config.timeLen)))
    (fun t => t.finish .busErr)

/-- READ's outcome from the bytes of its data step: short read, then halt, then the fields (41_transactions.md R165,
60_exceptions.md R224). -/
def readOutcome (bs : List Byte) (t : State) : State :=
  match TimeBlock.ofBytes bs with
  | none => t.finish .shortRead
  | some b =>
    if haltBit b.seconds = 1#1 then t.finish .clockHalted
    else { t with tfOut := some (decodeBlock b).pack, tfv := true }.finish .ok

/-- RD_DATA at a response (41_transactions.md R165). -/
def stepRdData : Response → State → Result :=
  readResponse Config.timeLen readOutcome (fun t => t.finish .busErr)

/-- WR_P1 at a response: phase 2 sends LAT_SEC (41_transactions.md R166). -/
def stepWrP1 : Response → State → Result :=
  writeResponse
    (fun t => match t.latSec with
      | some sec2 => .next (t.send .wrP2 (.blockWrite Config.devAddr Config.timeBase [sec2]))
      | none => .fault .latchEmpty)
    (fun t => t.finish .busErr)

/-- WR_P2 at a response (41_transactions.md R166). -/
def stepWrP2 : Response → State → Result :=
  writeResponse (fun t => .next (t.finish .ok)) (fun t => t.finish .busErr)

/-- ISRUNNING's Unknown (41_transactions.md R167). -/
def isrunningUnknown (t : State) : State := (t.setRes 0x0002#16).finish .none

/-- IR_PTR at a response (41_transactions.md R167). -/
def stepIrPtr : Response → State → Result :=
  writeResponse (fun t => .next (t.send .irData (.blockRead Config.devAddr 1))) isrunningUnknown

/-- ISRUNNING's outcome from the bytes of its data step: Unknown if there is none, else the halt bit (41_transactions.md
R167). -/
def isrunningOutcome (bs : List Byte) (t : State) : State :=
  match bs with
  | [] => isrunningUnknown t
  | b0 :: _ => (t.setRes ((haltBit b0).setWidth 16)).finish .none

/-- IR_DATA at a response (41_transactions.md R167). -/
def stepIrData : Response → State → Result :=
  readResponse 1 isrunningOutcome isrunningUnknown

/-- GETCAL's sentinel (41_transactions.md R168). -/
def getcalSentinel (t : State) : State := (t.setRes Config.calSentinel).finish .none

/-- GC_PTR at a response (41_transactions.md R168). -/
def stepGcPtr : Response → State → Result :=
  writeResponse (fun t => .next (t.send .gcData (.blockRead Config.devAddr 1))) getcalSentinel

/-- GETCAL's outcome from the bytes of its data step: the sentinel if there is none, else the decoded byte
(41_transactions.md R168). -/
def getcalOutcome (bs : List Byte) (t : State) : State :=
  match bs with
  | [] => getcalSentinel t
  | b0 :: _ => (t.setRes (sext16 (calDecode b0))).finish .none

/-- GC_DATA at a response (41_transactions.md R168). -/
def stepGcData : Response → State → Result :=
  readResponse 1 getcalOutcome getcalSentinel

/-- SC_WR at a response (41_transactions.md R169). -/
def stepScWr : Response → State → Result :=
  writeResponse (fun t => .next (t.finish .ok)) (fun t => t.finish .busErr)

/-- The sequencer's step at a transport response (41_transactions.md R171); none is admitted while IDLE (R172). -/
def respond (r : Response) (s : State) : Result :=
  match s.fsm with
  | .idle => .refused .inadmissibleMove
  | .rdPtr => stepRdPtr r s
  | .rdData => stepRdData r s
  | .wrP1 => stepWrP1 r s
  | .wrP2 => stepWrP2 r s
  | .irPtr => stepIrPtr r s
  | .irData => stepIrData r s
  | .gcPtr => stepGcPtr r s
  | .gcData => stepGcData r s
  | .scWr => stepScWr r s

end Sys2Proof.Machine
end

