-- ==== Sys2Proof/Machine/Chip.lean ====
section
/-! DEFINITION. The environment model of 20_memory.md R59: how the chip and the transport answer the outstanding request.
What the spec leaves to draws comes with the answer. -/

namespace Sys2Proof.Machine

/-- The tick that may come just before a byte of a BlockRead is read (20_memory.md R59 item 4). -/
def State.tickBefore (i : ReadInstant) (s : State) : State :=
  match i.tick with
  | some t => s.chipTick t
  | none => s

/-- The bytes of a BlockRead from address `a` on, each as the chip stands when it is read, and the state after the ticks
between them (20_memory.md R57, R59 items 3 and 4). -/
def readChip (a : Nat) : List ReadInstant → State → List Byte × State
  | [], s => ([], s)
  | i :: is, s =>
    let t := s.tickBefore i
    let (bs, u) := readChip (a + 1) is t
    ((t.chip.read a).getD i.beyond :: bs, u)

/-- The chip takes these bytes from register `start` on in one instant (20_memory.md R56), and its pointer ends at `p`. -/
def State.chipStore (start : Byte) (bs : List Byte) (p : Byte) (s : State) : State :=
  { s with chip := s.chip.writeBytes start.toNat bs, chipPtr := p }

/-- The chip's part in a request to it: the response and the chip afterwards (20_memory.md R59 items 3 and 6). -/
def serveChip (q : Request) (d : Answer) (s : State) : Response × State :=
  match q, d with
  | .ptrWrite _ reg, .success _ _ => (.ok, { s with chipPtr := reg })
  | .ptrWrite _ reg, .failure applied _ => (.err, if applied = 0 then s else { s with chipPtr := reg })
  | .blockWrite _ start bs, .success _ p => (.ok, s.chipStore start bs p)
  | .blockWrite _ start bs, .failure applied p => (.err, s.chipStore start (bs.take applied) p)
  | .blockRead _ _, .success is p =>
    let (bs, t) := readChip s.chipPtr.toNat is s
    (.bytes bs, { t with chipPtr := p })
  | .blockRead _ _, .failure _ p => (.err, { s with chipPtr := p })

/-- The response to a request to another device than the chip, which leaves the chip alone: the block sends none
(20_memory.md R51, log 21). -/
def serveOther (q : Request) (d : Answer) : Response :=
  match q, d with
  | _, .failure _ _ => .err
  | .ptrWrite _ _, .success _ _ => .ok
  | .blockWrite _ _ _, .success _ _ => .ok
  | .blockRead _ _, .success is _ => .bytes (is.map fun i => i.beyond)

/-- The device a request names (20_memory.md R58). -/
def Request.dev : Request → Byte
  | .ptrWrite dev _ => dev
  | .blockWrite dev _ _ => dev
  | .blockRead dev _ => dev

/-- The environment answers a request: the response and the state after its effect on the chip (20_memory.md R59). -/
def serve (q : Request) (d : Answer) (s : State) : Response × State :=
  if q.dev = Config.devAddr then serveChip q d s else (serveOther q d, s)

/-- The transport answers the outstanding request and the block takes the step of 41_transactions.md R171; with none
outstanding an answer is not admitted (R172). -/
def answerRequest (d : Answer) (s : State) : Result :=
  match s.req with
  | none => .refused .inadmissibleMove
  | some q =>
    let (r, t) := serve q d s
    respond r t

/-- Block reset. A request it abandons may have taken any part of its effect on the chip; the block takes no step for it
(70_reset_and_hazards.md R260, R261). -/
def resetMove (applied : Nat) (ptrAfter : Byte) (s : State) : State :=
  match s.req with
  | none => s.blockReset
  | some q => (serve q (.failure applied ptrAfter) s).2.blockReset

end Sys2Proof.Machine
end

