-- ==== Sys2Proof/Machine/Dispatch.lean ====
section
/-! DEFINITION. One meaning per command: its issue step (41_transactions.md R160). -/

namespace Sys2Proof.Machine

def exec (i : Instr) (s : State) : Host.Outcome State Fault Refusal :=
  match i with
  | .read => Sys2Proof.Machine.execRead s
  | .write => Sys2Proof.Machine.execWrite s
  | .isrunning => Sys2Proof.Machine.execIsrunning s
  | .getcal => Sys2Proof.Machine.execGetcal s
  | .setcal => Sys2Proof.Machine.execSetcal s
  | .chippresent => Sys2Proof.Machine.execChippresent s
  | .hoursdec => Sys2Proof.Machine.execHoursdec s
  | .bcdenc => Sys2Proof.Machine.execBcdenc s
  | .bcddec => Sys2Proof.Machine.execBcddec s
  | .yeardec => Sys2Proof.Machine.execYeardec s
  | .yearenc => Sys2Proof.Machine.execYearenc s
  | .haltext => Sys2Proof.Machine.execHaltext s
  | .calenc => Sys2Proof.Machine.execCalenc s
  | .caldec => Sys2Proof.Machine.execCaldec s

end Sys2Proof.Machine
end

