-- ==== Sys2Proof/Machine/Moves.lean ====
section
/-! DEFINITION. What each agent's act does: host port accesses (30_encoding.md R80, R83), the statements of a host program
(R91), transport answers, ticks, other bus masters and block reset. -/

namespace Sys2Proof.Machine

/-- A write to CMD: decode, then issue (10_state.md R26, 41_transactions.md R160). -/
def writeCmd (c : Byte) (s : State) : Result :=
  match decode c with
  | .ok i => exec i s
  | .error _ => .next (s.refuse .reservedCommand)

/-- `PortWrite`: a whole-register write, at any time even while BUSY; a write to CMD issues a command (10_state.md R26, R28,
R30; 20_memory.md R53, R55). A port takes the low bits of its width (log 16). -/
def portWrite (port : Nat) (v : Word64) (s : State) : Result :=
  match Port.ofNumber port with
  | some .cmd => writeCmd (v.setWidth 8) s
  | some .arg => .next { s with arg := some (v.setWidth 16) }
  | some .tfIn => .next { s with tfIn := some v }
  | some .status | some .res | some .tfOut | none => .next (s.refuse .badPortAccess)

/-- One port access of the host. -/
def performAccess (a : Access) (s : State) : Result :=
  match a with
  | .write port v => portWrite port v s
  | .read port => portRead port s

/-- The host executes the statement at its program counter; past the program's end it does nothing (30_encoding.md R91). -/
def hostStatement (s : State) : Result :=
  match s.program[s.hostPc]? with
  | none => .next s
  | some (.access a) => performAccess a { s with hostPc := s.hostPc + 1 }
  | some (.jz0 bit target) =>
    .next { s with hostPc := if s.acc.getLsbD bit then s.hostPc + 1 else target }

/-- An agent acts. -/
def perform (m : Move) (s : State) : Result :=
  match m with
  | .access a => performAccess a s
  | .hostRuns => hostStatement s
  | .answer d => answerRequest d s
  | .tick t => .next (s.chipTick t)
  | .otherMaster cells ptrAfter => .next (s.otherAccess cells ptrAfter)
  | .reset applied ptrAfter => .next (resetMove applied ptrAfter s)

/-- Take the oldest pending act; with none pending the block waits, and nothing changes (70_reset_and_hazards.md R268,
00_scope.md R11). -/
def takeMove (s : State) : Result :=
  match s.moves with
  | [] => .next s
  | m :: rest => perform m { s with moves := rest }

/-- The access of the host that issues command word `w`, put before all pending acts. -/
def State.withCommandWord (s : State) (c : Byte) : State :=
  { s with moves := .access (.write 0 (c.setWidth 64)) :: s.moves }

end Sys2Proof.Machine
end

