-- ==== Sys2Proof/Machine/Step.lean ====
section
/-! DEFINITION. One step: the oldest pending act of an agent, and where a command is placed so that the next step issues
it. -/

namespace Sys2Proof.Machine

/-- One step of the whole system (70_reset_and_hazards.md R268). -/
def step (s : State) : Host.Outcome State Fault Refusal := takeMove s

/-- The state whose very next step is the host's write of this command word to CMD (log 18). -/
def State.withFetchWord (s : State) (nbits w : Nat) : State := s.withCommandWord (tableWord nbits w)

end Sys2Proof.Machine
end

