-- ==== Sys2Proof/Machine/HostProgram.lean ====
section
/-! DEFINITION. The spec's assembler for host programs (30_encoding.md R91, R92), and how the source's host functions read
the block's results (41_transactions.md R173). -/

namespace Sys2Proof.Machine

/-- A value as written, on a port: a negative one is stored in two's complement (30_encoding.md R91). -/
def asmValue (port : Nat) (v : Int) : Word64 :=
  match Port.ofNumber port with
  | some p => BitVec.ofNat 64 (v % 2 ^ p.width).toNat
  | none => BitVec.ofInt 64 v

/-- The lines one `wait` stands for: poll STATUS until DONE is 1 (30_encoding.md R92). `k` makes its label fresh. -/
def waitLines (k : Nat) : List AsmLine :=
  [.label (.wait k), .input 1, .jz0 1 (.wait k)]

/-- A TimeFields value written to TF_IN (30_encoding.md R92 `tf`). -/
def tfLine (f : TimeFields) : AsmLine := .out 4 f.pack.toNat

/-- The expansion of one line (30_encoding.md R92). `k` numbers the line, for the label of its `wait`. -/
def expandLine (k : Nat) : PseudoLine → List AsmLine
  | .base l => [l]
  | .arg v => [.out 2 v]
  | .tf f => [tfLine f]
  | .wait => waitLines k
  | .runN i => .cmd i :: waitLines k
  | .runA i v => .out 2 v :: .cmd i :: waitLines k
  | .runT f => tfLine f :: .cmd .write :: waitLines k

/-- The expansion of a program, its lines numbered from `k` (30_encoding.md R92). -/
def expandFrom (k : Nat) : List PseudoLine → List AsmLine
  | [] => []
  | l :: ls => expandLine k l ++ expandFrom (k + 1) ls

/-- The number of the statement a label stands before, statements numbered from `n` (30_encoding.md R91). -/
def labelAddress (l : Label) (n : Nat) : List AsmLine → Option Nat
  | [] => none
  | .label l' :: ls => if l' = l then some n else labelAddress l n ls
  | .cmd _ :: ls | .out _ _ :: ls | .input _ :: ls | .jz0 _ _ :: ls => labelAddress l (n + 1) ls

/-- The statements of these lines, their labels looked up in the whole program `all`; none if a label is missing
(30_encoding.md R91). -/
def assembleLines (all : List AsmLine) : List AsmLine → Option (List Stmt)
  | [] => some []
  | .label _ :: ls => assembleLines all ls
  | .cmd i :: ls => do
    let ss ← assembleLines all ls
    return .access (.write 0 ((encode i).setWidth 64)) :: ss
  | .out port v :: ls => do
    let ss ← assembleLines all ls
    return .access (.write port (asmValue port v)) :: ss
  | .input port :: ls => do
    let ss ← assembleLines all ls
    return .access (.read port) :: ss
  | .jz0 bit l :: ls => do
    let target ← labelAddress l 0 all
    let ss ← assembleLines all ls
    return .jz0 bit target :: ss

/-- Assemble a host program (30_encoding.md R91, R92; log 22). -/
def assemble (ls : List PseudoLine) : Option (List Stmt) :=
  let all := expandFrom 0 ls
  assembleLines all all

/-- The source's TriState (30_encoding.md R86). -/
inductive TriState where
  | running | stopped | unknown
deriving DecidableEq, Repr

/-- `read` and `write` return true exactly if CODE = OK (41_transactions.md R173). -/
def hostSucceeded (s : State) : Bool := decide (s.code = .ok)

/-- The TimeFields of `read`, present only if it returned true (41_transactions.md R173). -/
def hostReadFields (s : State) : Option TimeFields :=
  if hostSucceeded s then s.tfOut.map TimeFields.unpack else none

/-- `isRunning` from RES; none where RES holds no tri-state code (41_transactions.md R173, 30_encoding.md R86). -/
def hostIsRunning (s : State) : Option TriState :=
  match s.res with
  | none => none
  | some r => match r.toNat with
    | 0 => some .running
    | 1 => some .stopped
    | 2 => some .unknown
    | _ => none

/-- `getCalibration` from RES: RES[7:0] as an i8, 64 meaning failure (41_transactions.md R173). -/
def hostGetCalibration (s : State) : Option Int := s.res.map operandI8

/-- `chipPresent` from RES[0] (41_transactions.md R173). -/
def hostChipPresent (s : State) : Option Bool := s.res.map fun r => r.getLsbD 0

end Sys2Proof.Machine
end

