-- ==== Sys2Proof/Safety.lean ====
section
/-! DEFINITION. What claims speak of: the premise that no mark is set (10_state.md R25), and the invariant of the block and
its chip that the rules of 10_state.md, 30_encoding.md and 41_transactions.md R171 give. -/

namespace Sys2Proof.Machine

/-- "Neither mark set", the premise of a claim about a run (10_state.md R25). -/
def State.unmarked (s : State) : Bool := !s.refused && !s.faulted

/-- The responses a request admits (20_memory.md R58, 41_transactions.md R172). -/
def Request.admits : Request → Response → Bool
  | .ptrWrite _ _, .ok | .ptrWrite _ _, .err => true
  | .blockWrite _ _ _, .ok | .blockWrite _ _ _, .err => true
  | .blockRead _ _, .err | .blockRead _ _, .bytes _ => true
  | .ptrWrite _ _, .bytes _ | .blockWrite _ _ _, .bytes _ | .blockRead _ _, .ok => false

/-- The sequencer states in which a data step waits, each reached by an `Ok` (41_transactions.md R162). -/
def Fsm.afterFirstOk : Fsm → Bool
  | .rdData | .wrP2 | .irData | .gcData => true
  | .idle | .rdPtr | .wrP1 | .irPtr | .gcPtr | .scWr => false

/-- The REQ and LAT_SEC of each sequencer state (41_transactions.md R171; 10_state.md R22, R23; 30_encoding.md R89): the
seconds bytes of the two phases share their low bits, and CH is 1 in the first and 0 in the second. -/
def State.requestFits (s : State) : Prop :=
  match s.fsm with
  | .idle => s.req = none ∧ s.latSec = none
  | .rdPtr | .irPtr => s.req = some (.ptrWrite 0x68#8 0x00#8) ∧ s.latSec = none
  | .rdData => s.req = some (.blockRead 0x68#8 7) ∧ s.latSec = none
  | .wrP1 => ∃ (e : Byte) (fields : List Byte), fields.length = 6 ∧
      s.req = some (.blockWrite 0x68#8 0x00#8 ((e ||| 0x80#8) :: fields)) ∧ s.latSec = some (e &&& 0x7F#8)
  | .wrP2 => ∃ e : Byte, s.req = some (.blockWrite 0x68#8 0x00#8 [e &&& 0x7F#8]) ∧ s.latSec = some (e &&& 0x7F#8)
  | .irData | .gcData => s.req = some (.blockRead 0x68#8 1) ∧ s.latSec = none
  | .gcPtr => s.req = some (.ptrWrite 0x68#8 0x07#8) ∧ s.latSec = none
  | .scWr => ∃ c : Byte, c.toNat < 64 ∧ s.req = some (.blockWrite 0x68#8 0x07#8 [c]) ∧ s.latSec = none

/-- The ranges of what READ decodes (30_encoding.md R87). -/
def TimeFieldsInRange (f : TimeFields) : Prop :=
  f.second.toNat ≤ 85 ∧ f.minute.toNat ≤ 165 ∧ f.hour.toNat ≤ 125 ∧ f.weekday.toNat ≤ 165 ∧ f.day.toNat ≤ 165 ∧
  f.month.toNat ≤ 165 ∧ 2000 ≤ f.year.toNat ∧ f.year.toNat ≤ 2165

/-- The ranges "within chip-valid" of 70_reset_and_hazards.md R266. -/
def TimeFieldsChipValid (f : TimeFields) : Prop :=
  f.second.toNat ≤ 59 ∧ f.minute.toNat ≤ 59 ∧ f.hour.toNat ≤ 23 ∧ (1 ≤ f.weekday.toNat ∧ f.weekday.toNat ≤ 7) ∧
  (1 ≤ f.day.toNat ∧ f.day.toNat ≤ 31) ∧ (1 ≤ f.month.toNat ∧ f.month.toNat ≤ 12) ∧
  2000 ≤ f.year.toNat ∧ f.year.toNat ≤ 2099

/-- The invariant of the block and its chip. -/
structure State.Inv (s : State) : Prop where
  /-- REQ and LAT_SEC are those of the sequencer state (41_transactions.md R171; 10_state.md R22, R23). -/
  request : s.requestFits
  /-- While a command is in flight DONE is 0 and CODE is NONE (70_reset_and_hazards.md R264). -/
  inFlight : s.fsm ≠ .idle → s.done = false ∧ s.code = .none
  /-- Before the first command since reset STATUS is 0x00 (30_encoding.md R94). -/
  untouched : s.fsm = .idle → s.done = false → s.code = .none ∧ s.tfv = false
  /-- A data step follows an `Ok` of the same command, so P is 1 (41_transactions.md R162). -/
  present : s.fsm.afterFirstOk = true → s.chipPresence = true
  /-- TFV is 1 exactly while TF_OUT holds a value (10_state.md R27, R31). -/
  valid : s.tfv = s.tfOut.isSome
  /-- READ in flight, or just failed, leaves TF_OUT empty (10_state.md R31, 41_transactions.md R165). -/
  noFields : s.fsm = .rdPtr ∨ s.fsm = .rdData ∨ s.code = .shortRead ∨ s.code = .clockHalted → s.tfOut = none
  /-- RES holds none while ISRUNNING or GETCAL is in flight (10_state.md R29). -/
  noResult : s.fsm = .irPtr ∨ s.fsm = .irData ∨ s.fsm = .gcPtr ∨ s.fsm = .gcData → s.res = none
  /-- TF_OUT holds fields that READ can decode (30_encoding.md R87). -/
  fields : ∀ v, s.tfOut = some v → TimeFieldsInRange (TimeFields.unpack v)
  /-- The chip has its eight registers, in canonical form (20_memory.md R50). -/
  chip : s.chip.map (fun c => c.1) = [0, 1, 2, 3, 4, 5, 6, 7]

/-- In a data step the chip's pointer stands where the `PtrWrite` of the same command put it (10_state.md R38, 20_memory.md
R59 item 3). Every step keeps this but another bus master's, so it goes with the premise `noOtherMaster` of R59 item 8. -/
def State.PointerSet (s : State) : Prop :=
  (s.fsm = .rdData ∨ s.fsm = .irData → s.chipPtr = 0x00#8) ∧ (s.fsm = .gcData → s.chipPtr = 0x07#8)

/-- The next act is another bus master's (20_memory.md R59 item 7). -/
def State.otherMasterNext (s : State) : Prop := ∃ cells p, s.moves.head? = some (.otherMaster cells p)

end Sys2Proof.Machine
end

