-- ==== Sys2Proof/Certificates/Slice0/Obligations.lean ====
section
/-! DEFINITION. The statements for the provers, from the numbered rules of spec/. -/

namespace Sys2Proof.Claims

open Sys2Proof.Machine

/-- Two BCD digits by plain arithmetic (40_codec.md R120); above 99 the free value `bcdOverflow` of draw `d` (R121). -/
def bcdByte (d n : Nat) : Byte :=
  if n ≤ 99 then BitVec.ofNat 8 (16 * (n / 10) + n % 10) else Config.bcdOverflow d n

/-- The year field by plain arithmetic; before 2000 the free value `pre2000Year` of draw `d` (40_codec.md R124). -/
def yearField (d y : Nat) : Nat :=
  if 2000 ≤ y then (y - 2000) % 100 else (Config.pre2000Year d (BitVec.ofNat 16 y)).toNat

/-- The decimal value of two BCD digits by plain arithmetic (40_codec.md R122). -/
def bcdValue (b : Nat) : Nat := b / 16 * 10 + b % 16

/-- Byte `i` of TF_IN (30_encoding.md R87). -/
def fieldByte (v : Word64) (i : Nat) : Nat := v.toNat / 2 ^ (8 * i) % 256

/-- A command that ends in this result and this CODE (41_transactions.md R161). -/
def ended (s : State) (p : Bool) (c : Code) : State :=
  { s with chipPresence := p, code := c, done := true, fsm := .idle, req := none, latSec := none }

/-- A command that finishes in its issue step, with this RES (40_codec.md R131). -/
def resulted (s : State) (r : Word16) : State := { s with res := some r, done := true, code := .none }

/-- Change the state of a next outcome and leave every stop. -/
def mapNext (f : State → State) : Result → Result
  | .next t => .next (f t)
  | .fault r => .fault r
  | .refused r => .refused r

/-- The host's write of a command word to CMD. -/
def command (c : Byte) : Move := .access (.write 0 (c.setWidth 64))

/-- The step is refused: its act is spent, the mark is set, and nothing else changes (10_state.md R25, 60_exceptions.md
R228). -/
def onlyRefused (s : State) (rest : List Move) : Prop := step s = .next { s with refused := true, moves := rest }

/-- The commands that finish in their issue step (40_codec.md R131, 41_transactions.md R170). -/
def oneStep : List Instr :=
  [.chippresent, .hoursdec, .bcdenc, .bcddec, .yeardec, .yearenc, .haltext, .calenc, .caldec]

/-- The commands that use the transport (41_transactions.md R165 to R169). -/
def transport : List Instr := [.read, .write, .isrunning, .getcal, .setcal]

/-- The operand register of the command holds a value (41_transactions.md R160). -/
def operandReady (i : Instr) (s : State) : Prop :=
  (i.form = .a → s.arg.isSome = true) ∧ (i.form = .t → s.tfIn.isSome = true)

/-- The spec gives this issue no result: the block is busy, or the operand register holds none (41_transactions.md R160). -/
def turnedAway (i : Instr) (s : State) : Prop := s.fsm ≠ .idle ∨ ¬ operandReady i s

/-- What no command of the block writes: its operand ports, the chip register by register, the host and the acts still to
come. -/
def sameOutside (s t : State) : Prop :=
  t.arg = s.arg ∧ t.tfIn = s.tfIn ∧
  (∀ a, t.chip.read a = s.chip.read a) ∧ t.chipPtr = s.chipPtr ∧ t.acc = s.acc ∧ t.program = s.program ∧
  t.hostPc = s.hostPc ∧ t.moves = s.moves

end Sys2Proof.Claims

open Sys2Proof Sys2Proof.Machine Sys2Proof.Claims

/-! ### Reset, decoding and the step -/

/-- 10_state.md R39: what block reset leaves. With no request outstanding the chip keeps its registers; the state of a fresh
launch is the same with both marks clear (R25). -/
def Obligations.BlockResetValues : Prop :=
  (∀ (s : State) (k : Nat) (p : Byte) (rest : List Move), s.moves = .reset k p :: rest →
    ∃ t, step s = .next t ∧ t.chipPresence = Config.initP s.draws ∧ t.fsm = .idle ∧ t.req = none ∧ t.latSec = none ∧
      t.status = 0x00#8 ∧ t.done = false ∧ t.code = .none ∧ t.tfv = false ∧
      t.arg = none ∧ t.res = none ∧ t.tfIn = none ∧ t.tfOut = none ∧
      t.refused = s.refused ∧ t.faulted = s.faulted ∧ t.moves = rest ∧
      (s.req = none → (∀ a, t.chip.read a = s.chip.read a) ∧ t.chipPtr = s.chipPtr)) ∧
  (∀ s : State, s.blockReset.chip = s.chip ∧ s.blockReset.chipPtr = s.chipPtr) ∧
  (State.reset.chipPresence = Config.initP 0 ∧ State.reset.fsm = .idle ∧ State.reset.req = none ∧
    State.reset.latSec = none ∧ State.reset.status = 0x00#8 ∧ State.reset.arg = none ∧ State.reset.res = none ∧
    State.reset.tfIn = none ∧ State.reset.tfOut = none ∧ State.reset.refused = false ∧ State.reset.faulted = false)

/-- The invariant holds at a fresh launch, and so does its companion on the chip's pointer. -/
def Obligations.ResetMeetsInvariant : Prop := State.reset.Inv ∧ State.reset.PointerSet

/-- Every step keeps the invariant: REQ and LAT_SEC fit the sequencer, P is 1 in every data step, TFV and TF_OUT agree, no
partial fields, the chip keeps its eight registers in canonical form. Every step but another bus master's also keeps the
chip's pointer where a data step reads (10_state.md R38, 20_memory.md R59). -/
def Obligations.StepKeepsInvariant : Prop :=
  (∀ s t : State, s.Inv → step s = .next t → t.Inv) ∧
  (∀ s t : State, s.Inv → s.PointerSet → ¬ s.otherMasterNext → step s = .next t → t.PointerSet)

/-- 30_encoding.md R82: the fourteen command words, each written out. -/
def Obligations.CommandWordsDecode : Prop :=
  decode 0b00000001#8 = .ok .read ∧ decode 0b00000010#8 = .ok .write ∧ decode 0b00000011#8 = .ok .isrunning ∧
  decode 0b00000100#8 = .ok .getcal ∧ decode 0b00000101#8 = .ok .setcal ∧ decode 0b00000110#8 = .ok .chippresent ∧
  decode 0b00000111#8 = .ok .hoursdec ∧ decode 0b00001000#8 = .ok .bcdenc ∧ decode 0b00001001#8 = .ok .bcddec ∧
  decode 0b00001010#8 = .ok .yeardec ∧ decode 0b00001011#8 = .ok .yearenc ∧ decode 0b00001100#8 = .ok .haltext ∧
  decode 0b00001101#8 = .ok .calenc ∧ decode 0b00001110#8 = .ok .caldec

/-- Decode and encode agree both ways: a word decodes to a command exactly if it is that command's word. The same of WRITE's
operand: packing the seven fields and reading them back loses no bit at any value, and each field stands at its bits
(30_encoding.md R87). -/
def Obligations.DecodeInvertsEncode : Prop :=
  (∀ (c : Byte) (i : Instr), decode c = .ok i ↔ c = encode i) ∧
  (∀ f : TimeFields, TimeFields.unpack f.pack = f) ∧ (∀ v : Word64, (TimeFields.unpack v).pack = v) ∧
  (∀ f : TimeFields, f.pack.toNat = f.second.toNat + 2 ^ 8 * f.minute.toNat + 2 ^ 16 * f.hour.toNat +
    2 ^ 24 * f.weekday.toNat + 2 ^ 32 * f.day.toNat + 2 ^ 40 * f.month.toNat + 2 ^ 48 * f.year.toNat)

/-- 30_encoding.md R83: a word with MBZ not zero or a reserved opcode is refused in every state, busy or not, and so is every
other access the rule names: the step sets the mark `refused` and changes no other state. Of the 256 words 14 are commands. -/
def Obligations.IllegalAccessesRefused : Prop :=
  (∀ (s : State) (c : Byte) (rest : List Move), s.moves = command c :: rest →
    (c.toNat / 16 ≠ 0 ∨ c.toNat % 16 = 0 ∨ c.toNat % 16 = 15) → onlyRefused s rest) ∧
  (∀ (s : State) (rest : List Move), s.moves = .access (.read 0) :: rest → onlyRefused s rest) ∧
  (∀ (s : State) (n : Nat) (v : Word64) (rest : List Move), s.moves = .access (.write n v) :: rest →
    (n = 1 ∨ n = 3 ∨ n = 5) → onlyRefused s rest) ∧
  (∀ (s : State) (n : Nat) (v : Word64) (rest : List Move), 6 ≤ n →
    (s.moves = .access (.write n v) :: rest ∨ s.moves = .access (.read n) :: rest) →
    onlyRefused s rest) ∧
  ((List.range 256).filter fun n => (decode (BitVec.ofNat 8 n)).toBool).length = 14

/-- A step runs the decoded command: the host's write to CMD, directly, as placed by `withFetchWord`, or by its program
(whose counter moves on), is `exec` of the command at the state with that act taken. That acts come as a list is the model's
choice (logs 2, 18), and so is that a value too wide for CMD counts by its low 8 bits (log 16). -/
def Obligations.StepRunsCommand : Prop :=
  (∀ (s : State) (v : Word64) (i : Instr) (rest : List Move), s.moves = .access (.write 0 v) :: rest →
    decode (v.setWidth 8) = .ok i → step s = exec i { s with moves := rest }) ∧
  (∀ (s : State) (w : Nat) (i : Instr), decodeTableWord 8 w = some i → step (s.withFetchWord 8 w) = exec i s) ∧
  (∀ (s : State) (v : Word64) (i : Instr) (rest : List Move), s.moves = .hostRuns :: rest →
    s.program[s.hostPc]? = some (.access (.write 0 v)) → decode (v.setWidth 8) = .ok i →
    step s = exec i { s with moves := rest, hostPc := s.hostPc + 1 })

/-- A transport answer is the chip's part, then the sequencer's step at the response (20_memory.md R58); with no request
outstanding there is no such move (41_transactions.md R172, the model refuses it, log 15). -/
def Obligations.AnswerRunsSequencer : Prop :=
  (∀ (s : State) (d : Answer) (q : Request) (rest : List Move), s.moves = .answer d :: rest → s.req = some q →
    step s = respond (serve q d { s with moves := rest }).1 (serve q d { s with moves := rest }).2) ∧
  (∀ (s : State) (d : Answer) (rest : List Move), s.moves = .answer d :: rest → s.req = none →
    step s = .refused .inadmissibleMove)

/-! ### Issue -/

/-- 41_transactions.md R160: busy before the operand check, each setting its mark and changing nothing else, and with both passed
the command issues, CODE reading NONE and DONE 0 while it is in flight. -/
def Obligations.IssueChecksInOrder : Prop :=
  (∀ (i : Instr) (s : State), s.fsm ≠ .idle → exec i s = .next { s with refused := true }) ∧
  (∀ (i : Instr) (s : State), s.fsm = .idle → i.form = .a → s.arg = none → exec i s = .next { s with faulted := true }) ∧
  (∀ (i : Instr) (s : State), s.fsm = .idle → i.form = .t → s.tfIn = none → exec i s = .next { s with faulted := true }) ∧
  (∀ (i : Instr) (s : State), s.fsm = .idle → operandReady i s →
    ∃ t, exec i s = .next t ∧ t.code = .none ∧
      (i ∈ transport → t.busy = true ∧ t.done = false) ∧ (i ∈ oneStep → t.busy = false ∧ t.done = true))

/-- 40_codec.md R132. -/
def Obligations.BcdencEncodes : Prop :=
  (∀ (s : State) (a : Word16), s.fsm = .idle → s.arg = some a →
    exec .bcdenc s = .next { resulted s ((bcdByte s.draws (a.toNat % 256)).setWidth 16) with draws := s.draws + 1 }) ∧
  (∀ s : State, s.fsm = .idle → s.arg = none → exec .bcdenc s = .next { s with faulted := true }) ∧
  decode 0x08#8 = .ok .bcdenc

/-- 40_codec.md R133. -/
def Obligations.BcddecDecodes : Prop :=
  (∀ (s : State) (a : Word16), s.fsm = .idle → s.arg = some a →
    exec .bcddec s = .next (resulted s (BitVec.ofNat 16 (bcdValue (a.toNat % 256))))) ∧
  (∀ s : State, s.fsm = .idle → s.arg = none → exec .bcddec s = .next { s with faulted := true }) ∧
  decode 0x09#8 = .ok .bcddec

/-- 40_codec.md R134. -/
def Obligations.YeardecAddsTheBase : Prop :=
  (∀ (s : State) (a : Word16), s.fsm = .idle → s.arg = some a →
    exec .yeardec s = .next (resulted s (BitVec.ofNat 16 (2000 + a.toNat % 256)))) ∧
  (∀ s : State, s.fsm = .idle → s.arg = none → exec .yeardec s = .next { s with faulted := true }) ∧
  decode 0x0A#8 = .ok .yeardec

/-- 40_codec.md R135. -/
def Obligations.YearencTakesModulo : Prop :=
  (∀ (s : State) (a : Word16), s.fsm = .idle → s.arg = some a →
    exec .yearenc s = .next { resulted s (BitVec.ofNat 16 (yearField s.draws a.toNat)) with draws := s.draws + 1 }) ∧
  (∀ s : State, s.fsm = .idle → s.arg = none → exec .yearenc s = .next { s with faulted := true }) ∧
  decode 0x0B#8 = .ok .yearenc

/-- 40_codec.md R136. -/
def Obligations.HaltextSplitsTheSeconds : Prop :=
  (∀ (s : State) (a : Word16), s.fsm = .idle → s.arg = some a →
    exec .haltext s = .next (resulted s (BitVec.ofNat 16 (256 * (a.toNat % 256 / 128) + bcdValue (a.toNat % 128))))) ∧
  (∀ s : State, s.fsm = .idle → s.arg = none → exec .haltext s = .next { s with faulted := true }) ∧
  decode 0x0C#8 = .ok .haltext

/-- 40_codec.md R137. -/
def Obligations.CalencIsSignMagnitude : Prop :=
  (∀ (s : State) (a : Word16), s.fsm = .idle → s.arg = some a →
    exec .calenc s = .next (resulted s (BitVec.ofNat 16
      ((if 0 ≤ (a.setWidth 8).toInt then 32 else 0) + (a.setWidth 8).toInt.natAbs % 32)))) ∧
  (∀ s : State, s.fsm = .idle → s.arg = none → exec .calenc s = .next { s with faulted := true }) ∧
  decode 0x0D#8 = .ok .calenc

/-- 40_codec.md R138. -/
def Obligations.CaldecReadsSignMagnitude : Prop :=
  (∀ (s : State) (a : Word16), s.fsm = .idle → s.arg = some a →
    exec .caldec s = .next (resulted s (BitVec.ofInt 16
      (if a.toNat / 32 % 2 = 1 then ((a.toNat % 32 : Nat) : Int) else -((a.toNat % 32 : Nat) : Int))))) ∧
  (∀ s : State, s.fsm = .idle → s.arg = none → exec .caldec s = .next { s with faulted := true }) ∧
  decode 0x0E#8 = .ok .caldec

/-- 40_codec.md R139: bit 6 dropped, every other bit decoded. -/
def Obligations.HoursdecIgnoresBitSix : Prop :=
  (∀ (s : State) (a : Word16), s.fsm = .idle → s.arg = some a →
    exec .hoursdec s = .next (resulted s (BitVec.ofNat 16
      ((a.toNat % 256 / 128 * 8 + a.toNat / 16 % 4) * 10 + a.toNat % 16)))) ∧
  (∀ s : State, s.fsm = .idle → s.arg = none → exec .hoursdec s = .next { s with faulted := true }) ∧
  decode 0x07#8 = .ok .hoursdec

/-- 41_transactions.md R170. -/
def Obligations.ChippresentReadsPresence : Prop :=
  (∀ s : State, s.fsm = .idle →
    exec .chippresent s = .next (resulted s (if s.chipPresence then 0x0001#16 else 0x0000#16))) ∧
  decode 0x06#8 = .ok .chippresent

/-! ### The transport commands -/

/-- 41_transactions.md R165: READ from issue to each of its outcomes. -/
def Obligations.ReadTransaction : Prop :=
  decode 0x01#8 = .ok .read ∧
  (∀ s : State, s.fsm = .idle →
    exec .read s = .next { s with tfOut := none, tfv := false, done := false, code := .none,
                                  req := some (.ptrWrite 0x68#8 0x00#8), fsm := .rdPtr }) ∧
  (∀ s : State, s.fsm = .rdPtr →
    respond .err s = .next (ended s false .busErr) ∧
    respond .ok s = .next { s with chipPresence := true, req := some (.blockRead 0x68#8 7), fsm := .rdData }) ∧
  (∀ s : State, s.fsm = .rdData →
    respond .err s = .next (ended s false .busErr) ∧
    (∀ bs : List Byte, bs.length < 7 → respond (.bytes bs) s = .next (ended s s.chipPresence .shortRead)) ∧
    (∀ (b0 b1 b2 b3 b4 b5 b6 : Byte) (more : List Byte),
      (128 ≤ b0.toNat →
        respond (.bytes (b0 :: b1 :: b2 :: b3 :: b4 :: b5 :: b6 :: more)) s = .next (ended s true .clockHalted)) ∧
      (b0.toNat < 128 →
        ∃ f : TimeFields, f.second.toNat = bcdValue b0.toNat ∧ f.minute.toNat = bcdValue b1.toNat ∧
          f.hour.toNat = (b2.toNat / 128 * 8 + b2.toNat / 16 % 4) * 10 + b2.toNat % 16 ∧
          f.weekday.toNat = bcdValue b3.toNat ∧ f.day.toNat = bcdValue b4.toNat ∧
          f.month.toNat = bcdValue b5.toNat ∧ f.year.toNat = 2000 + bcdValue b6.toNat ∧
          respond (.bytes (b0 :: b1 :: b2 :: b3 :: b4 :: b5 :: b6 :: more)) s =
            .next { ended s true .ok with tfOut := some f.pack, tfv := true })))

/-- 41_transactions.md R166: WRITE from issue to each of its outcomes, both seconds bytes from one BCD value. -/
def Obligations.WriteTransaction : Prop :=
  decode 0x02#8 = .ok .write ∧
  (∀ (s : State) (v : Word64), s.fsm = .idle → s.tfIn = some v →
    ∃ e : Byte, e = bcdByte s.draws (fieldByte v 0) ∧
    exec .write s = .next { s with
      done := false, code := .none, latSec := some (e &&& 0x7F#8), fsm := .wrP1, draws := s.draws + 7,
      req := some (.blockWrite 0x68#8 0x00#8
        [e ||| 0x80#8, bcdByte (s.draws + 1) (fieldByte v 1), bcdByte (s.draws + 2) (fieldByte v 2),
         bcdByte (s.draws + 3) (fieldByte v 3), bcdByte (s.draws + 4) (fieldByte v 4),
         bcdByte (s.draws + 5) (fieldByte v 5),
         bcdByte (s.draws + 6) (yearField (s.draws + 6) (v.toNat / 2 ^ 48))]) }) ∧
  (∀ s : State, s.fsm = .idle → s.tfIn = none → exec .write s = .next { s with faulted := true }) ∧
  (∀ s : State, s.fsm = .wrP1 →
    respond .err s = .next (ended s false .busErr) ∧
    (∀ b : Byte, s.latSec = some b →
      respond .ok s =
        .next { s with chipPresence := true, req := some (.blockWrite 0x68#8 0x00#8 [b]), fsm := .wrP2 })) ∧
  (∀ s : State, s.fsm = .wrP2 →
    respond .err s = .next (ended s false .busErr) ∧ respond .ok s = .next (ended s true .ok))

/-- 41_transactions.md R167: ISRUNNING from issue to each of its outcomes. -/
def Obligations.IsrunningTransaction : Prop :=
  decode 0x03#8 = .ok .isrunning ∧
  (∀ s : State, s.fsm = .idle →
    exec .isrunning s = .next { s with res := none, done := false, code := .none,
                                       req := some (.ptrWrite 0x68#8 0x00#8), fsm := .irPtr }) ∧
  (∀ s : State, s.fsm = .irPtr →
    respond .err s = .next { ended s false .none with res := some 0x0002#16 } ∧
    respond .ok s = .next { s with chipPresence := true, req := some (.blockRead 0x68#8 1), fsm := .irData }) ∧
  (∀ s : State, s.fsm = .irData →
    respond .err s = .next { ended s false .none with res := some 0x0002#16 } ∧
    respond (.bytes []) s = .next { ended s s.chipPresence .none with res := some 0x0002#16 } ∧
    (∀ (b : Byte) (more : List Byte), respond (.bytes (b :: more)) s =
      .next { ended s true .none with res := some (if 128 ≤ b.toNat then 0x0001#16 else 0x0000#16) }))

/-- 41_transactions.md R168: GETCAL from issue to each of its outcomes. -/
def Obligations.GetcalTransaction : Prop :=
  decode 0x04#8 = .ok .getcal ∧
  (∀ s : State, s.fsm = .idle →
    exec .getcal s = .next { s with res := none, done := false, code := .none,
                                    req := some (.ptrWrite 0x68#8 0x07#8), fsm := .gcPtr }) ∧
  (∀ s : State, s.fsm = .gcPtr →
    respond .err s = .next { ended s false .none with res := some 0x0040#16 } ∧
    respond .ok s = .next { s with chipPresence := true, req := some (.blockRead 0x68#8 1), fsm := .gcData }) ∧
  (∀ s : State, s.fsm = .gcData →
    respond .err s = .next { ended s false .none with res := some 0x0040#16 } ∧
    respond (.bytes []) s = .next { ended s s.chipPresence .none with res := some 0x0040#16 } ∧
    (∀ (b : Byte) (more : List Byte), respond (.bytes (b :: more)) s =
      .next { ended s true .none with res := some (BitVec.ofInt 16
        (if b.toNat / 32 % 2 = 1 then ((b.toNat % 32 : Nat) : Int) else -((b.toNat % 32 : Nat) : Int))) }))

/-- 41_transactions.md R169: SETCAL from issue to each of its outcomes. -/
def Obligations.SetcalTransaction : Prop :=
  decode 0x05#8 = .ok .setcal ∧
  (∀ (s : State) (a : Word16), s.fsm = .idle → s.arg = some a →
    exec .setcal s = .next { s with
      done := false, code := .none, fsm := .scWr,
      req := some (.blockWrite 0x68#8 0x07#8 [BitVec.ofNat 8
        ((if 0 ≤ (a.setWidth 8).toInt then 32 else 0) + (a.setWidth 8).toInt.natAbs % 32)]) }) ∧
  (∀ s : State, s.fsm = .idle → s.arg = none → exec .setcal s = .next { s with faulted := true }) ∧
  (∀ s : State, s.fsm = .scWr →
    respond .err s = .next (ended s false .busErr) ∧ respond .ok s = .next (ended s true .ok))

/-! ### Frames -/

/-- HOURSDEC, BCDENC, BCDDEC, YEARDEC, YEARENC, HALTEXT, CALENC, CALDEC and CHIPPRESENT write RES, DONE and CODE and nothing
else of the block (40_codec.md R131, 41_transactions.md R170); `draws` is the model's own. -/
def Obligations.OneStepCommandFrame : Prop :=
  ∀ (i : Instr) (s t : State), i ∈ oneStep → exec i s = .next t →
    sameOutside s t ∧ t.chipPresence = s.chipPresence ∧ t.fsm = s.fsm ∧ t.latSec = s.latSec ∧ t.req = s.req ∧
    t.tfv = s.tfv ∧ t.tfOut = s.tfOut ∧
    (¬ turnedAway i s → t.refused = s.refused ∧ t.faulted = s.faulted) ∧
    (turnedAway i s → t.res = s.res ∧ t.done = s.done ∧ t.code = s.code ∧ t.draws = s.draws)

/-- The issue of a transport command: READ writes TF_OUT and TFV, ISRUNNING and GETCAL write RES, WRITE writes LAT_SEC; each
writes fsm, REQ, DONE and CODE, and nothing else of the block; no byte of the chip changes. -/
def Obligations.TransportIssueFrame : Prop :=
  ∀ (i : Instr) (s t : State), i ∈ transport → exec i s = .next t →
    sameOutside s t ∧ t.chipPresence = s.chipPresence ∧
    (i ≠ .write → t.latSec = s.latSec) ∧
    (i ≠ .read → t.tfOut = s.tfOut ∧ t.tfv = s.tfv) ∧
    (i ≠ .isrunning → i ≠ .getcal → t.res = s.res) ∧
    (¬ turnedAway i s → t.refused = s.refused ∧ t.faulted = s.faulted) ∧
    (turnedAway i s → t.fsm = s.fsm ∧ t.req = s.req ∧ t.latSec = s.latSec ∧ t.tfOut = s.tfOut ∧ t.tfv = s.tfv ∧
      t.res = s.res ∧ t.done = s.done ∧ t.code = s.code ∧ t.draws = s.draws)

/-- The block's step at a response: the operand ports, the marks and the host never change; TF_OUT and TFV change only when
READ ends OK; RES changes only when ISRUNNING or GETCAL ends. -/
def Obligations.ResponseFrame : Prop :=
  ∀ (r : Response) (s t : State), respond r s = .next t →
    sameOutside s t ∧ t.draws = s.draws ∧ t.refused = s.refused ∧ t.faulted = s.faulted ∧
    (¬ (s.fsm = .rdData ∧ t.code = .ok) → t.tfOut = s.tfOut ∧ t.tfv = s.tfv) ∧
    (t.res = s.res ∨ t.fsm = .idle ∧ (s.fsm = .irPtr ∨ s.fsm = .irData ∨ s.fsm = .gcPtr ∨ s.fsm = .gcData))

/-- The bytes a transport answer may change on the chip: those of the outstanding BlockWrite; none for a PtrWrite; for a
BlockRead none but by the ticks of a running chip. -/
def Obligations.AnswerChipFrame : Prop :=
  ∀ (d : Answer) (s t : State), answerRequest d s = .next t →
    (∀ dev reg, s.req = some (.ptrWrite dev reg) → ∀ a, t.chip.read a = s.chip.read a) ∧
    (∀ dev start bs, s.req = some (.blockWrite dev start bs) →
      ∀ a, a < start.toNat ∨ start.toNat + bs.length ≤ a → t.chip.read a = s.chip.read a) ∧
    (∀ dev n, s.req = some (.blockRead dev n) →
      (s.chipHalted = true ∨ ∀ is p, d = .success is p → ∀ i ∈ is, i.tick = none) →
      ∀ a, t.chip.read a = s.chip.read a) ∧
    (∀ dev n, s.req = some (.blockRead dev n) → ∀ a, 7 ≤ a → t.chip.read a = s.chip.read a)

/-- 20_memory.md R59 items 3 and 6, on the chip: an acknowledged BlockWrite lands whole, a failed one has landed its first
`k` bytes and no others. -/
def Obligations.BlockWriteLandsOnChip : Prop :=
  ∀ (s : State) (start : Byte) (bs : List Byte) (p : Byte) (i : Nat), s.Inv →
    s.req = some (.blockWrite 0x68#8 start bs) → (hi : i < bs.length) →
    (∃ t, answerRequest (.success [] p) s = .next t ∧ t.chip.read (start.toNat + i) = some bs[i]) ∧
    (∀ k, ∃ t, answerRequest (.failure k p) s = .next t ∧
      (i < k → t.chip.read (start.toNat + i) = some bs[i]) ∧
      (k ≤ i → t.chip.read (start.toNat + i) = s.chip.read (start.toNat + i)))

/-! ### Ports -/

/-- 10_state.md R27: the bits of STATUS. -/
def Obligations.StatusBits : Prop :=
  ∀ s : State, s.status.toNat =
    (if s.fsm = .idle then 0 else 1) + (if s.done then 2 else 0) +
    4 * (match s.code with | .none => 0 | .ok => 1 | .busErr => 2 | .shortRead => 3 | .clockHalted => 4) +
    (if s.tfv then 32 else 0)

/-- The STATUS values programs see (30_encoding.md R94). -/
def Obligations.StatusValues : Prop :=
  ∀ s : State, s.Inv →
    (s.fsm ≠ .idle → s.status = 0x01#8 ∨ (s.status = 0x21#8 ∧ s.fsm ≠ .rdPtr ∧ s.fsm ≠ .rdData)) ∧
    (s.fsm = .idle → s.done = false → s.status = 0x00#8) ∧
    (s.fsm = .idle → s.done = true → s.status ∈ [0x02#8, 0x22#8, 0x06#8, 0x26#8, 0x0A#8, 0x2A#8, 0x0E#8, 0x12#8])

/-- 20_memory.md R55 and 30_encoding.md R91: a port read puts the register's value in the accumulator and has no other
effect; reading a port that holds none sets the mark `faulted` and changes nothing else (60_exceptions.md R228).
-/
def Obligations.PortReadsValue : Prop :=
  ∀ s : State,
    portRead 1 s = .next { s with acc := s.status.setWidth 64 } ∧
    (∀ v, s.arg = some v → portRead 2 s = .next { s with acc := v.setWidth 64 }) ∧
    (∀ v, s.res = some v → portRead 3 s = .next { s with acc := v.setWidth 64 }) ∧
    (∀ v, s.tfIn = some v → portRead 4 s = .next { s with acc := v }) ∧
    (∀ v, s.tfOut = some v → portRead 5 s = .next { s with acc := v }) ∧
    (s.arg = none → portRead 2 s = .next { s with faulted := true }) ∧
    (s.res = none → portRead 3 s = .next { s with faulted := true }) ∧
    (s.tfIn = none → portRead 4 s = .next { s with faulted := true }) ∧
    (s.tfOut = none → portRead 5 s = .next { s with faulted := true })

/-- 10_state.md R28 and R30: the host may write ARG and TF_IN at any time, even while BUSY, and nothing else changes. -/
def Obligations.OperandPortsAlwaysWritable : Prop :=
  (∀ (s : State) (v : Word64) (rest : List Move), s.moves = .access (.write 2 v) :: rest →
    step s = .next { s with moves := rest, arg := some (v.setWidth 16) }) ∧
  (∀ (s : State) (v : Word64) (rest : List Move), s.moves = .access (.write 4 v) :: rest →
    step s = .next { s with moves := rest, tfIn := some v })

/-- 30_encoding.md R91: `jz0 bit, label` goes to the label exactly if that accumulator bit is 0, and touches the host's
program counter alone. For a bit above 63, which reads as 0, that is the model's choice (log 17). -/
def Obligations.HostBranch : Prop :=
  ∀ (s : State) (bit target : Nat) (rest : List Move), s.moves = .hostRuns :: rest →
    s.program[s.hostPc]? = some (.jz0 bit target) →
    (s.acc.toNat / 2 ^ bit % 2 = 0 → step s = .next { s with moves := rest, hostPc := target }) ∧
    (s.acc.toNat / 2 ^ bit % 2 = 1 → step s = .next { s with moves := rest, hostPc := s.hostPc + 1 })

/-! ### Rules of the whole machine -/

/-- 41_transactions.md R162: P after every response, and no command's own issue writes P. -/
def Obligations.PresenceLaw : Prop :=
  (∀ (s t : State) (r : Response) (q : Request), s.Inv → s.req = some q → respond r s = .next t →
    (r = .ok → t.chipPresence = true) ∧ (r = .err → t.chipPresence = false) ∧
    (∀ bs dev n, r = .bytes bs → q = .blockRead dev n →
      (n ≤ bs.length → t.chipPresence = true) ∧ (bs.length < n → t.chipPresence = s.chipPresence) ∧
      t.chipPresence = true)) ∧
  (∀ (i : Instr) (s t : State), exec i s = .next t → t.chipPresence = s.chipPresence)

/-- 10_state.md R20: CHIPPRESENT alone reads P. Every other command's issue does the same whatever P is, and so does the
step at every response, where ISRUNNING and GETCAL make RES (90_conflicts.md C10): only P itself may differ after. -/
def Obligations.PresenceReadByChippresentOnly : Prop :=
  (∀ (i : Instr) (s : State) (p : Bool), i ≠ .chippresent →
    exec i { s with chipPresence := p } = mapNext (fun t => { t with chipPresence := p }) (exec i s)) ∧
  (∀ (r : Response) (s : State) (p p' : Bool),
    mapNext (fun t => { t with chipPresence := p' }) (respond r { s with chipPresence := p }) =
      mapNext (fun t => { t with chipPresence := p' }) (respond r s))

/-- 70_reset_and_hazards.md R269: an operand port written while a command is in flight changes nothing of what the command
does; the response's step commutes with the write. -/
def Obligations.OperandsLatchedAtIssue : Prop :=
  ∀ (s : State) (r : Response) (a : Option Word16) (v : Option Word64),
    respond r { s with arg := a, tfIn := v } = mapNext (fun t => { t with arg := a, tfIn := v }) (respond r s)

/-- Only an answer or a reset moves a busy sequencer: no host access, host statement, tick or other master releases it
(00_scope.md R11, 10_state.md R40). -/
def Obligations.OnlyAnswersMoveBusySequencer : Prop :=
  ∀ s t : State, s.fsm ≠ .idle → step s = .next t →
    (t.fsm = s.fsm ∧ t.req = s.req ∧ t.latSec = s.latSec ∧ t.chipPresence = s.chipPresence ∧ t.done = s.done ∧
      t.code = s.code ∧ t.res = s.res ∧ t.tfOut = s.tfOut ∧ t.tfv = s.tfv) ∨
    (∃ d rest, s.moves = .answer d :: rest) ∨ (∃ k p rest, s.moves = .reset k p :: rest)

/-- 41_transactions.md R161: a busy sequencer returns to IDLE only by finish, which sets DONE and empties REQ and LAT_SEC, or
by reset. -/
def Obligations.FinishReturnsToIdle : Prop :=
  ∀ s t : State, s.fsm ≠ .idle → step s = .next t → t.fsm = .idle →
    (∃ k p rest, s.moves = .reset k p :: rest) ∨
    ((∃ d rest, s.moves = .answer d :: rest) ∧ t.done = true ∧ t.req = none ∧ t.latSec = none)

/-- Every admitted answer moves every busy state: under the invariant the sequencer has a row for it (41_transactions.md
R171), so no answer faults or is refused. -/
def Obligations.EveryAnswerIsAccepted : Prop :=
  ∀ (s : State) (d : Answer) (rest : List Move), s.Inv → s.fsm ≠ .idle → s.moves = .answer d :: rest →
    ∃ t, step s = .next t

/-- Every command finishes within two answers, whatever they are (41_transactions.md R161, R171; 60_exceptions.md R222: no
retry). -/
def Obligations.CommandsFinishInTwoAnswers : Prop :=
  ∀ (s : State) (d1 d2 : Answer) (rest : List Move), s.Inv → s.fsm ≠ .idle →
    s.moves = .answer d1 :: .answer d2 :: rest →
    ∃ k t, 1 ≤ k ∧ k ≤ 2 ∧ Sys2Proof.core.run k s = .next t ∧ t.fsm = .idle ∧ t.done = true ∧ t.Inv

/-- 20_memory.md R51: the block never sends a request above chip address 0x07 or to another device than 0x68. A BlockRead
names no address: it stays there as long as no other bus master acts, since the pointer then stands at 0x00 for READ and
ISRUNNING and at 0x07 for GETCAL (10_state.md R38, 20_memory.md R59 items 3 and 8). -/
def Obligations.RequestsStayOnChip : Prop :=
  ∀ (s t : State) (q : Request), s.Inv → step s = .next t → t.req = some q →
    q.dev = 0x68#8 ∧
    (∀ dev reg, q = .ptrWrite dev reg → reg.toNat ≤ 7) ∧
    (∀ dev start bs, q = .blockWrite dev start bs → bs ≠ [] ∧ start.toNat + bs.length ≤ 8) ∧
    (∀ dev n, q = .blockRead dev n → n = 1 ∨ n = 7) ∧
    (s.PointerSet → ¬ s.otherMasterNext →
      (∀ dev n, q = .blockRead dev n → t.chipPtr.toNat + n ≤ 8) ∧
      (t.fsm = .rdData ∨ t.fsm = .irData → t.chipPtr = 0x00#8) ∧ (t.fsm = .gcData → t.chipPtr = 0x07#8))

/-- 60_exceptions.md R223: a failure of the first request of any transport command ends it with P = 0. -/
def Obligations.FirstFailureClearsPresence : Prop :=
  ∀ (i : Instr) (s : State), i ∈ transport → s.fsm = .idle → operandReady i s →
    ∃ t u, exec i s = .next t ∧ respond .err t = .next u ∧ u.chipPresence = false ∧ u.fsm = .idle ∧ u.done = true ∧
      u.code = (if i = .isrunning ∨ i = .getcal then .none else .busErr) ∧
      (i = .isrunning → u.res = some 0x0002#16) ∧ (i = .getcal → u.res = some 0x0040#16) ∧
      (i = .read → u.tfOut = none ∧ u.tfv = false)

/-- 60_exceptions.md R221: no successful GETCAL gives the sentinel; what it gives lies in -31..31. -/
def Obligations.SentinelMarksFailure : Prop :=
  ∀ (s : State) (b : Byte) (more : List Byte), s.fsm = .gcData →
    ∃ (t : State) (c : Int), respond (.bytes (b :: more)) s = .next t ∧ -31 ≤ c ∧ c ≤ 31 ∧
      t.res = some (BitVec.ofInt 16 c) ∧ t.res ≠ some 0x0040#16

/-- 10_state.md R25 and 60_exceptions.md R228: no step clears a mark, reset included; only an access of the host sets one;
and a step that sets one changes nothing else (its act is spent, and a host statement is behind the host's counter). -/
def Obligations.StopsChangeOnlyTheirMark : Prop :=
  ∀ s t : State, step s = .next t →
    (s.refused = true → t.refused = true) ∧ (s.faulted = true → t.faulted = true) ∧
    (t.refused ≠ s.refused ∨ t.faulted ≠ s.faulted →
      ((∃ a, s.moves.head? = some (.access a)) ∨ s.moves.head? = some .hostRuns) ∧
      ∃ pc, (pc = s.hostPc ∨ pc = s.hostPc + 1 ∧ s.moves.head? = some .hostRuns) ∧
        (t = { s with refused := true, moves := s.moves.tail, hostPc := pc } ∨
         t = { s with faulted := true, moves := s.moves.tail, hostPc := pc }))

/-- No command stops the machine, in any state; and under the invariant no act does, but an answer with no request
outstanding, which 41_transactions.md R172 says never comes. This is the model's reading and choice where the spec is silent:
that the machine goes on after what the spec faults or refuses (log 1, deduced; a claim about a run takes "neither mark set"
as its premise, 10_state.md R25), that a step with no act pending changes nothing (log 2), that the answer R172 excludes is
refused (log 15), and that a host turn past its program's end does nothing (log 17). -/
def Obligations.EveryActGoesOn : Prop :=
  (∀ (i : Instr) (s : State), ∃ t, exec i s = .next t) ∧
  (∀ s : State, s.Inv → (s.fsm = .idle → ∀ d, s.moves.head? ≠ some (.answer d)) → ∃ t, step s = .next t)

/-! ### The Codec's laws and the chip -/

/-- 40_codec.md R129: the seven laws of the conversion functions. The "exactly when" of law 3 is stated where the decoded
value is at most 99: above, `dec2bcd` is the free value `bcdOverflow` (log 5). -/
def Obligations.CodecLaws : Prop :=
  (∀ d n, n ≤ 99 → bcd2dec (dec2bcd d n) = n) ∧
  (∀ (d d' : Nat) (y : Word16), 2000 ≤ y.toNat → y.toNat ≤ 2099 →
    yearFromField (bcd2dec (dec2bcd d (fieldFromYear d' y))) = y.toNat) ∧
  (∀ (d : Nat) (b : Byte), b.toNat / 16 ≤ 9 → b.toNat % 16 ≤ 9 → dec2bcd d (bcd2dec b) = b) ∧
  (∀ (d : Nat) (b : Byte), bcd2dec b ≤ 99 → dec2bcd d (bcd2dec b) = b → b.toNat / 16 ≤ 9 ∧ b.toNat % 16 ≤ 9) ∧
  (∀ v : BitVec 8, calDecode (calEncode v.toInt) =
    if 0 ≤ v.toInt then v.toInt % 32 else -((v.toInt.natAbs % 32 : Nat) : Int)) ∧
  (∀ b : Byte, calEncode (calDecode b) = if b &&& 0x3F#8 = 0#8 then 0x20#8 else b &&& 0x3F#8) ∧
  (∀ d n, n ≤ 59 → haltBit (dec2bcd d n ||| 0x80#8) = 1#1 ∧ secsOf (dec2bcd d n ||| 0x80#8) = n) ∧
  (∀ d n, n ≤ 99 → haltBit (dec2bcd d n &&& 0x7F#8) = 0#1 ∧ (n ≤ 79 → secsOf (dec2bcd d n &&& 0x7F#8) = n)) ∧
  (∀ d h, h ≤ 23 → hoursOf (dec2bcd d h) = h) ∧ (∀ b : Byte, hoursOf (b ||| 0x40#8) = hoursOf b)

/-- 20_memory.md R57: a BlockRead of a halted chip returns one consistent image and changes nothing. For an address above 7,
where the chip has no register and the spec is silent (91_not_in_source.md N3), that the byte is the one the answer draws is
the model's choice (log 9). -/
def Obligations.HaltedChipReadsConsistently : Prop :=
  ∀ (s : State) (a : Nat) (is : List ReadInstant), s.chipHalted = true →
    (readChip a is s).2 = s ∧ (readChip a is s).1.length = is.length ∧
    ∀ i, (hi : i < is.length) → (readChip a is s).1[i]? = some ((s.chip.read (a + i)).getD is[i].beyond)

/-- 20_memory.md R59 items 4 and 5: a tick gives a running chip's seven time registers any values and leaves the calibration
register; a halted chip does not change. -/
def Obligations.TickMovesOnlyRunningChip : Prop :=
  ∀ (s : State) (b : TimeBlock) (rest : List Move), s.Inv → s.moves = .tick b :: rest →
    ∃ t, step s = .next t ∧
      (s.chipHalted = true → t.chip = s.chip) ∧
      (s.chipHalted = false → ∀ i, (hi : i < 7) → t.chip.read i = b.toBytes[i]?) ∧
      t.chip.read 7 = s.chip.read 7

/-- 70_reset_and_hazards.md R266: WRITE then READ, every request answered Ok, no tick and no other master, gives the fields
written, for all chip-valid fields. -/
def Obligations.WriteThenReadRoundTrip : Prop :=
  ∀ (s : State) (f : TimeFields) (is : List ReadInstant) (p1 p2 p3 p4 : Byte) (rest : List Move), s.Inv → s.fsm = .idle →
    TimeFieldsChipValid f → is.length = 7 → (∀ i ∈ is, i.tick = none) →
    s.moves = .access (.write 4 f.pack) :: command 0x02#8 :: .answer (.success [] p1) :: .answer (.success [] p2) ::
      command 0x01#8 :: .answer (.success [] p3) :: .answer (.success is p4) :: rest →
    ∃ t, Sys2Proof.core.run 7 s = .next t ∧ t.tfOut = some f.pack ∧ t.tfv = true ∧ t.code = .ok ∧ t.status = 0x26#8 ∧
      t.chipPresence = true ∧ t.fsm = .idle ∧ t.moves = rest

/-- 70_reset_and_hazards.md R265: if phase 2 fails with nothing applied, the chip holds the phase-1 image, halted, and a
following ISRUNNING finds it Stopped; the command itself ended BUSERR with P = 0. -/
def Obligations.PhaseTwoFailureIsDetected : Prop :=
  ∀ (s : State) (e : Byte) (fields : List Byte) (is : List ReadInstant) (p1 p2 p3 p4 : Byte) (rest : List Move), s.Inv →
    s.fsm = .wrP1 → s.req = some (.blockWrite 0x68#8 0x00#8 ((e ||| 0x80#8) :: fields)) → is.length = 1 →
    s.moves = .answer (.success [] p1) :: .answer (.failure 0 p2) ::
      command 0x03#8 :: .answer (.success [] p3) :: .answer (.success is p4) :: rest →
    (∃ t, Sys2Proof.core.run 2 s = .next t ∧ t.code = .busErr ∧ t.chipPresence = false ∧ t.fsm = .idle ∧
      t.chipHalted = true ∧ t.chip.read 0 = some (e ||| 0x80#8) ∧
      (∀ i, (hi : i < fields.length) → t.chip.read (i + 1) = some fields[i])) ∧
    (∃ t, Sys2Proof.core.run 5 s = .next t ∧ t.res = some 0x0001#16 ∧ t.fsm = .idle ∧ t.done = true)

/-- SETCAL then GETCAL on an answering chip gives back the value, its magnitude reduced modulo 32 (41_transactions.md R168,
R169; 40_codec.md R129 law 4), whatever ticks come. That ARG takes the low 16 bits of a value too wide for it is the model's
choice (log 16). -/
def Obligations.CalibrationRoundTrip : Prop :=
  ∀ (s : State) (a : Word64) (is : List ReadInstant) (p1 p2 p3 : Byte) (rest : List Move), s.Inv → s.fsm = .idle →
    is.length = 1 →
    s.moves = .access (.write 2 a) :: command 0x05#8 :: .answer (.success [] p1) ::
      command 0x04#8 :: .answer (.success [] p2) :: .answer (.success is p3) :: rest →
    ∃ t, Sys2Proof.core.run 6 s = .next t ∧ t.fsm = .idle ∧ t.chipPresence = true ∧
      t.res = some (BitVec.ofInt 16 (if 0 ≤ (a.setWidth 8).toInt then (a.setWidth 8).toInt % 32
        else -(((a.setWidth 8).toInt.natAbs % 32 : Nat) : Int)))
end

