-- ==== Sys2Proof/Laws/Codec.lean ====
section
/-! SUPPORT. The Codec's functions and the packing, once: ranges, the shape of an operand, and that unpacking undoes
packing. -/

namespace Sys2Proof.Machine

theorem operandU8_toNat (a : Word16) : (operandU8 a).toNat = a.toNat % 256 := by simp [operandU8]

theorem operandU8_eq_setWidth (a : Word16) : operandU8 a = a.setWidth 8 := by
  apply BitVec.eq_of_toNat_eq
  simp [operandU8]

/-- The i8 operand is the two's-complement reading of ARG[7:0]. -/
theorem operandI8_eq_toInt (a : Word16) : operandI8 a = (a.setWidth 8).toInt := by
  have h : ∀ b : Byte, ((b.toNat : Int) - 256 * (b.extractLsb' 7 1).toNat) = b.toInt := by decide
  unfold operandI8
  rw [h, operandU8_eq_setWidth]

/-- Up to 99 no draw is used. -/
theorem dec2bcd_valid (d : Nat) {n : Nat} (h : n ≤ 99) :
    dec2bcd d n = BitVec.ofNat 8 (((n / 10) <<< 4) ||| (n % 10)) := by simp [dec2bcd, h]

/-- Above 99 the byte is the draw. -/
theorem dec2bcd_overflow (d : Nat) {n : Nat} (h : 99 < n) : dec2bcd d n = Config.bcdOverflow d n := by
  have : ¬ n ≤ 99 := by omega
  simp [dec2bcd, this]

theorem fieldFromYear_valid (d : Nat) {y : Word16} (h : 2000 ≤ y.toNat) :
    fieldFromYear d y = (y.toNat - 2000) % 100 := by simp [fieldFromYear, Config.yearBase, h]

theorem bcd2dec_le : ∀ b : Byte, bcd2dec b ≤ 165 := by decide

theorem secsOf_le : ∀ b : Byte, secsOf b ≤ 85 := by decide

theorem hoursOf_le : ∀ b : Byte, hoursOf b ≤ 125 := by decide

theorem calDecode_range : ∀ b : Byte, -31 ≤ calDecode b ∧ calDecode b ≤ 31 := by decide

theorem calEncode_lt : ∀ v : BitVec 8, (calEncode v.toInt).toNat < 64 := by decide

end Sys2Proof.Machine

namespace Sys2Proof

/-- TF_IN and TF_OUT lose no field (30_encoding.md R87). -/
theorem TimeFields.unpack_pack (f : TimeFields) : TimeFields.unpack f.pack = f := by
  rcases f with ⟨a, b, c, d, e, g, y⟩
  simp only [TimeFields.unpack, TimeFields.pack, TimeFields.mk.injEq]
  refine ⟨?_, ?_, ?_, ?_, ?_, ?_, ?_⟩ <;> apply BitVec.eq_of_getLsbD_eq <;> intro i hi <;>
    simp only [BitVec.getLsbD_extractLsb', BitVec.getLsbD_append, hi, decide_true, Bool.true_and]
  all_goals simp (disch := omega) only [if_neg, if_pos, Nat.add_sub_cancel_left, Nat.zero_add]
  all_goals (congr 1; omega)

end Sys2Proof
end

