-- ==== Sys2Proof/Laws/Memory.lean ====
section
/-! SUPPORT. The chip's registers: read after write, the canonical form kept by every operation, and equal readings are
equal data. -/

namespace Sys2Proof.Machine

variable (m : Memory) (a b : Nat) (v : Byte)

/-- The addresses a memory lists. -/
abbrev Memory.addrs (m : Memory) : List Nat := m.map fun c => c.1

theorem Memory.read_isSome_iff : (m.read a).isSome = true ↔ a ∈ m.addrs := by
  induction m with
  | nil => simp [Memory.read]
  | cons c m ih =>
    obtain ⟨k, w⟩ := c
    by_cases h : k = a
    · simp [Memory.read, h]
    · simp [Memory.read, h, ih, Ne.symm h]

@[simp] theorem Memory.addrs_write : (m.write a v).addrs = m.addrs := by
  induction m with
  | nil => rfl
  | cons c m ih =>
    obtain ⟨k, w⟩ := c
    by_cases h : k = a
    · simp [Memory.write, h]
    · simpa [Memory.write, h] using ih

@[simp] theorem Memory.addrs_writeBytes (bs : List Byte) : (m.writeBytes a bs).addrs = m.addrs := by
  induction bs generalizing m a with
  | nil => rfl
  | cons b bs ih => rw [Memory.writeBytes, ih, Memory.addrs_write]

@[simp] theorem Memory.addrs_writeCells (cs : List Host.Cell) : (m.writeCells cs).addrs = m.addrs := by
  induction cs generalizing m with
  | nil => rfl
  | cons c cs ih => rw [Memory.writeCells, ih, Memory.addrs_write]

theorem Memory.read_write_same (h : a ∈ m.addrs) : (m.write a v).read a = some v := by
  induction m with
  | nil => simp at h
  | cons c m ih =>
    obtain ⟨k, w⟩ := c
    by_cases hk : k = a
    · simp [Memory.write, Memory.read, hk]
    · simpa [Memory.write, Memory.read, hk] using ih (by simpa [Ne.symm hk] using h)

theorem Memory.read_write_other (h : b ≠ a) : (m.write a v).read b = m.read b := by
  induction m with
  | nil => rfl
  | cons c m ih =>
    obtain ⟨k, w⟩ := c
    by_cases hk : k = a
    · subst hk; simp [Memory.write, Memory.read, Ne.symm h]
    · simp [Memory.write, Memory.read, hk, ih]

/-- A block write leaves every register outside the bytes stored. -/
theorem Memory.read_writeBytes_other (bs : List Byte) (h : b < a ∨ a + bs.length ≤ b) :
    (m.writeBytes a bs).read b = m.read b := by
  induction bs generalizing m a with
  | nil => rfl
  | cons w bs ih =>
    simp only [List.length_cons] at h
    rw [Memory.writeBytes, ih _ _ (by omega), Memory.read_write_other _ _ _ _ (by omega)]

/-- A block write puts byte i at register `a + i`. -/
theorem Memory.read_writeBytes_at (bs : List Byte) (i : Nat) (hi : i < bs.length) (h : a + i ∈ m.addrs) :
    (m.writeBytes a bs).read (a + i) = some bs[i] := by
  induction bs generalizing m a i with
  | nil => simp at hi
  | cons w bs ih =>
    cases i with
    | zero =>
      rw [Memory.writeBytes, Memory.read_writeBytes_other _ _ _ _ (by omega)]
      exact Memory.read_write_same _ _ _ (by simpa using h)
    | succ i =>
      have := ih (m.write a w) (a + 1) i (by simpa using hi) (by simpa [Nat.add_assoc, Nat.add_comm 1 i] using h)
      simpa [Memory.writeBytes, Nat.add_assoc, Nat.add_comm 1 i] using this

/-- Whether a memory is canonical depends on its addresses alone. -/
theorem Memory.wf_eq_of_addrs {m m' : Memory} (h : m.addrs = m'.addrs) : m.wf = m'.wf := by
  induction m generalizing m' with
  | nil => cases m' with
    | nil => rfl
    | cons c m' => simp at h
  | cons c m ih =>
    cases m' with
    | nil => simp at h
    | cons c' m' =>
      obtain ⟨h1, h2⟩ : c.1 = c'.1 ∧ Memory.addrs m = Memory.addrs m' := by simpa using h
      have := ih h2
      cases m with
      | nil => cases m' with
        | nil => rfl
        | cons d' m' => simp at h2
      | cons d m => cases m' with
        | nil => simp at h2
        | cons d' m' =>
          have hd : d.1 = d'.1 := by simp at h2; exact h2.1
          simp only [Memory.wf, h1, hd]
          rw [this]

theorem Memory.wf_write : (m.write a v).wf = m.wf := Memory.wf_eq_of_addrs (Memory.addrs_write m a v)

theorem Memory.wf_writeBytes (bs : List Byte) : (m.writeBytes a bs).wf = m.wf :=
  Memory.wf_eq_of_addrs (Memory.addrs_writeBytes m a bs)

theorem Memory.wf_writeCells (cs : List Host.Cell) : (m.writeCells cs).wf = m.wf :=
  Memory.wf_eq_of_addrs (Memory.addrs_writeCells m cs)

theorem Memory.start_wf : Memory.start.wf = true := by decide

/-- A memory with the chip's eight addresses is canonical. -/
theorem Memory.wf_of_chip_addrs {m : Memory} (h : m.addrs = [0, 1, 2, 3, 4, 5, 6, 7]) : m.wf = true :=
  (Memory.wf_eq_of_addrs (m' := Memory.start) (by rw [h]; rfl)).trans Memory.start_wf

end Sys2Proof.Machine
end

