-- ==== Sys2Proof/Laws/State.lean ====
section
/-! SUPPORT. What each update of the state does to each field, one lemma per field per update. -/

namespace Sys2Proof.Machine

section otherAccess

variable (s : State) (cells : List Host.Cell) (p : Byte)

@[simp] theorem State.otherAccess_chipPresence : (s.otherAccess cells p).chipPresence = s.chipPresence := rfl

@[simp] theorem State.otherAccess_fsm : (s.otherAccess cells p).fsm = s.fsm := rfl

@[simp] theorem State.otherAccess_latSec : (s.otherAccess cells p).latSec = s.latSec := rfl

@[simp] theorem State.otherAccess_req : (s.otherAccess cells p).req = s.req := rfl

@[simp] theorem State.otherAccess_done : (s.otherAccess cells p).done = s.done := rfl

@[simp] theorem State.otherAccess_code : (s.otherAccess cells p).code = s.code := rfl

@[simp] theorem State.otherAccess_tfv : (s.otherAccess cells p).tfv = s.tfv := rfl

@[simp] theorem State.otherAccess_arg : (s.otherAccess cells p).arg = s.arg := rfl

@[simp] theorem State.otherAccess_res : (s.otherAccess cells p).res = s.res := rfl

@[simp] theorem State.otherAccess_tfIn : (s.otherAccess cells p).tfIn = s.tfIn := rfl

@[simp] theorem State.otherAccess_tfOut : (s.otherAccess cells p).tfOut = s.tfOut := rfl

@[simp] theorem State.otherAccess_refused : (s.otherAccess cells p).refused = s.refused := rfl

@[simp] theorem State.otherAccess_faulted : (s.otherAccess cells p).faulted = s.faulted := rfl

@[simp] theorem State.otherAccess_chip : (s.otherAccess cells p).chip = s.chip.writeCells cells := rfl

@[simp] theorem State.otherAccess_chipPtr : (s.otherAccess cells p).chipPtr = p := rfl

@[simp] theorem State.otherAccess_acc : (s.otherAccess cells p).acc = s.acc := rfl

@[simp] theorem State.otherAccess_program : (s.otherAccess cells p).program = s.program := rfl

@[simp] theorem State.otherAccess_hostPc : (s.otherAccess cells p).hostPc = s.hostPc := rfl

@[simp] theorem State.otherAccess_moves : (s.otherAccess cells p).moves = s.moves := rfl

@[simp] theorem State.otherAccess_draws : (s.otherAccess cells p).draws = s.draws := rfl

end otherAccess

section fault

variable (s : State) (r : FaultReason)

@[simp] theorem State.fault_chipPresence : (s.fault r).chipPresence = s.chipPresence := rfl

@[simp] theorem State.fault_fsm : (s.fault r).fsm = s.fsm := rfl

@[simp] theorem State.fault_latSec : (s.fault r).latSec = s.latSec := rfl

@[simp] theorem State.fault_req : (s.fault r).req = s.req := rfl

@[simp] theorem State.fault_done : (s.fault r).done = s.done := rfl

@[simp] theorem State.fault_code : (s.fault r).code = s.code := rfl

@[simp] theorem State.fault_tfv : (s.fault r).tfv = s.tfv := rfl

@[simp] theorem State.fault_arg : (s.fault r).arg = s.arg := rfl

@[simp] theorem State.fault_res : (s.fault r).res = s.res := rfl

@[simp] theorem State.fault_tfIn : (s.fault r).tfIn = s.tfIn := rfl

@[simp] theorem State.fault_tfOut : (s.fault r).tfOut = s.tfOut := rfl

@[simp] theorem State.fault_refused : (s.fault r).refused = s.refused := rfl

@[simp] theorem State.fault_faulted : (s.fault r).faulted = true := rfl

@[simp] theorem State.fault_chip : (s.fault r).chip = s.chip := rfl

@[simp] theorem State.fault_chipPtr : (s.fault r).chipPtr = s.chipPtr := rfl

@[simp] theorem State.fault_acc : (s.fault r).acc = s.acc := rfl

@[simp] theorem State.fault_program : (s.fault r).program = s.program := rfl

@[simp] theorem State.fault_hostPc : (s.fault r).hostPc = s.hostPc := rfl

@[simp] theorem State.fault_moves : (s.fault r).moves = s.moves := rfl

@[simp] theorem State.fault_draws : (s.fault r).draws = s.draws := rfl

end fault

section refuse

variable (s : State) (r : RefusalReason)

@[simp] theorem State.refuse_chipPresence : (s.refuse r).chipPresence = s.chipPresence := rfl

@[simp] theorem State.refuse_fsm : (s.refuse r).fsm = s.fsm := rfl

@[simp] theorem State.refuse_latSec : (s.refuse r).latSec = s.latSec := rfl

@[simp] theorem State.refuse_req : (s.refuse r).req = s.req := rfl

@[simp] theorem State.refuse_done : (s.refuse r).done = s.done := rfl

@[simp] theorem State.refuse_code : (s.refuse r).code = s.code := rfl

@[simp] theorem State.refuse_tfv : (s.refuse r).tfv = s.tfv := rfl

@[simp] theorem State.refuse_arg : (s.refuse r).arg = s.arg := rfl

@[simp] theorem State.refuse_res : (s.refuse r).res = s.res := rfl

@[simp] theorem State.refuse_tfIn : (s.refuse r).tfIn = s.tfIn := rfl

@[simp] theorem State.refuse_tfOut : (s.refuse r).tfOut = s.tfOut := rfl

@[simp] theorem State.refuse_refused : (s.refuse r).refused = true := rfl

@[simp] theorem State.refuse_faulted : (s.refuse r).faulted = s.faulted := rfl

@[simp] theorem State.refuse_chip : (s.refuse r).chip = s.chip := rfl

@[simp] theorem State.refuse_chipPtr : (s.refuse r).chipPtr = s.chipPtr := rfl

@[simp] theorem State.refuse_acc : (s.refuse r).acc = s.acc := rfl

@[simp] theorem State.refuse_program : (s.refuse r).program = s.program := rfl

@[simp] theorem State.refuse_hostPc : (s.refuse r).hostPc = s.hostPc := rfl

@[simp] theorem State.refuse_moves : (s.refuse r).moves = s.moves := rfl

@[simp] theorem State.refuse_draws : (s.refuse r).draws = s.draws := rfl

end refuse

section send

variable (s : State) (f : Fsm) (r : Request)

@[simp] theorem State.send_chipPresence : (s.send f r).chipPresence = s.chipPresence := rfl

@[simp] theorem State.send_fsm : (s.send f r).fsm = f := rfl

@[simp] theorem State.send_latSec : (s.send f r).latSec = s.latSec := rfl

@[simp] theorem State.send_req : (s.send f r).req = some r := rfl

@[simp] theorem State.send_done : (s.send f r).done = s.done := rfl

@[simp] theorem State.send_code : (s.send f r).code = s.code := rfl

@[simp] theorem State.send_tfv : (s.send f r).tfv = s.tfv := rfl

@[simp] theorem State.send_arg : (s.send f r).arg = s.arg := rfl

@[simp] theorem State.send_res : (s.send f r).res = s.res := rfl

@[simp] theorem State.send_tfIn : (s.send f r).tfIn = s.tfIn := rfl

@[simp] theorem State.send_tfOut : (s.send f r).tfOut = s.tfOut := rfl

@[simp] theorem State.send_refused : (s.send f r).refused = s.refused := rfl

@[simp] theorem State.send_faulted : (s.send f r).faulted = s.faulted := rfl

@[simp] theorem State.send_chip : (s.send f r).chip = s.chip := rfl

@[simp] theorem State.send_chipPtr : (s.send f r).chipPtr = s.chipPtr := rfl

@[simp] theorem State.send_acc : (s.send f r).acc = s.acc := rfl

@[simp] theorem State.send_program : (s.send f r).program = s.program := rfl

@[simp] theorem State.send_hostPc : (s.send f r).hostPc = s.hostPc := rfl

@[simp] theorem State.send_moves : (s.send f r).moves = s.moves := rfl

@[simp] theorem State.send_draws : (s.send f r).draws = s.draws := rfl

end send

section beginIssue

variable (s : State)

@[simp] theorem State.beginIssue_chipPresence : s.beginIssue.chipPresence = s.chipPresence := rfl

@[simp] theorem State.beginIssue_fsm : s.beginIssue.fsm = s.fsm := rfl

@[simp] theorem State.beginIssue_latSec : s.beginIssue.latSec = s.latSec := rfl

@[simp] theorem State.beginIssue_req : s.beginIssue.req = s.req := rfl

@[simp] theorem State.beginIssue_done : s.beginIssue.done = false := rfl

@[simp] theorem State.beginIssue_code : s.beginIssue.code = .none := rfl

@[simp] theorem State.beginIssue_tfv : s.beginIssue.tfv = s.tfv := rfl

@[simp] theorem State.beginIssue_arg : s.beginIssue.arg = s.arg := rfl

@[simp] theorem State.beginIssue_res : s.beginIssue.res = s.res := rfl

@[simp] theorem State.beginIssue_tfIn : s.beginIssue.tfIn = s.tfIn := rfl

@[simp] theorem State.beginIssue_tfOut : s.beginIssue.tfOut = s.tfOut := rfl

@[simp] theorem State.beginIssue_refused : s.beginIssue.refused = s.refused := rfl

@[simp] theorem State.beginIssue_faulted : s.beginIssue.faulted = s.faulted := rfl

@[simp] theorem State.beginIssue_chip : s.beginIssue.chip = s.chip := rfl

@[simp] theorem State.beginIssue_chipPtr : s.beginIssue.chipPtr = s.chipPtr := rfl

@[simp] theorem State.beginIssue_acc : s.beginIssue.acc = s.acc := rfl

@[simp] theorem State.beginIssue_program : s.beginIssue.program = s.program := rfl

@[simp] theorem State.beginIssue_hostPc : s.beginIssue.hostPc = s.hostPc := rfl

@[simp] theorem State.beginIssue_moves : s.beginIssue.moves = s.moves := rfl

@[simp] theorem State.beginIssue_draws : s.beginIssue.draws = s.draws := rfl

end beginIssue

section finish

variable (s : State) (c : Code)

@[simp] theorem State.finish_chipPresence : (s.finish c).chipPresence = s.chipPresence := rfl

@[simp] theorem State.finish_fsm : (s.finish c).fsm = .idle := rfl

@[simp] theorem State.finish_latSec : (s.finish c).latSec = none := rfl

@[simp] theorem State.finish_req : (s.finish c).req = none := rfl

@[simp] theorem State.finish_done : (s.finish c).done = true := rfl

@[simp] theorem State.finish_code : (s.finish c).code = c := rfl

@[simp] theorem State.finish_tfv : (s.finish c).tfv = s.tfv := rfl

@[simp] theorem State.finish_arg : (s.finish c).arg = s.arg := rfl

@[simp] theorem State.finish_res : (s.finish c).res = s.res := rfl

@[simp] theorem State.finish_tfIn : (s.finish c).tfIn = s.tfIn := rfl

@[simp] theorem State.finish_tfOut : (s.finish c).tfOut = s.tfOut := rfl

@[simp] theorem State.finish_refused : (s.finish c).refused = s.refused := rfl

@[simp] theorem State.finish_faulted : (s.finish c).faulted = s.faulted := rfl

@[simp] theorem State.finish_chip : (s.finish c).chip = s.chip := rfl

@[simp] theorem State.finish_chipPtr : (s.finish c).chipPtr = s.chipPtr := rfl

@[simp] theorem State.finish_acc : (s.finish c).acc = s.acc := rfl

@[simp] theorem State.finish_program : (s.finish c).program = s.program := rfl

@[simp] theorem State.finish_hostPc : (s.finish c).hostPc = s.hostPc := rfl

@[simp] theorem State.finish_moves : (s.finish c).moves = s.moves := rfl

@[simp] theorem State.finish_draws : (s.finish c).draws = s.draws := rfl

end finish

section resultAtIssue

variable (s : State) (r : Word16)

@[simp] theorem State.resultAtIssue_chipPresence : (s.resultAtIssue r).chipPresence = s.chipPresence := rfl

@[simp] theorem State.resultAtIssue_fsm : (s.resultAtIssue r).fsm = s.fsm := rfl

@[simp] theorem State.resultAtIssue_latSec : (s.resultAtIssue r).latSec = s.latSec := rfl

@[simp] theorem State.resultAtIssue_req : (s.resultAtIssue r).req = s.req := rfl

@[simp] theorem State.resultAtIssue_done : (s.resultAtIssue r).done = true := rfl

@[simp] theorem State.resultAtIssue_code : (s.resultAtIssue r).code = .none := rfl

@[simp] theorem State.resultAtIssue_tfv : (s.resultAtIssue r).tfv = s.tfv := rfl

@[simp] theorem State.resultAtIssue_arg : (s.resultAtIssue r).arg = s.arg := rfl

@[simp] theorem State.resultAtIssue_res : (s.resultAtIssue r).res = some r := rfl

@[simp] theorem State.resultAtIssue_tfIn : (s.resultAtIssue r).tfIn = s.tfIn := rfl

@[simp] theorem State.resultAtIssue_tfOut : (s.resultAtIssue r).tfOut = s.tfOut := rfl

@[simp] theorem State.resultAtIssue_refused : (s.resultAtIssue r).refused = s.refused := rfl

@[simp] theorem State.resultAtIssue_faulted : (s.resultAtIssue r).faulted = s.faulted := rfl

@[simp] theorem State.resultAtIssue_chip : (s.resultAtIssue r).chip = s.chip := rfl

@[simp] theorem State.resultAtIssue_chipPtr : (s.resultAtIssue r).chipPtr = s.chipPtr := rfl

@[simp] theorem State.resultAtIssue_acc : (s.resultAtIssue r).acc = s.acc := rfl

@[simp] theorem State.resultAtIssue_program : (s.resultAtIssue r).program = s.program := rfl

@[simp] theorem State.resultAtIssue_hostPc : (s.resultAtIssue r).hostPc = s.hostPc := rfl

@[simp] theorem State.resultAtIssue_moves : (s.resultAtIssue r).moves = s.moves := rfl

@[simp] theorem State.resultAtIssue_draws : (s.resultAtIssue r).draws = s.draws := rfl

end resultAtIssue

section setRes

variable (s : State) (r : Word16)

@[simp] theorem State.setRes_chipPresence : (s.setRes r).chipPresence = s.chipPresence := rfl

@[simp] theorem State.setRes_fsm : (s.setRes r).fsm = s.fsm := rfl

@[simp] theorem State.setRes_latSec : (s.setRes r).latSec = s.latSec := rfl

@[simp] theorem State.setRes_req : (s.setRes r).req = s.req := rfl

@[simp] theorem State.setRes_done : (s.setRes r).done = s.done := rfl

@[simp] theorem State.setRes_code : (s.setRes r).code = s.code := rfl

@[simp] theorem State.setRes_tfv : (s.setRes r).tfv = s.tfv := rfl

@[simp] theorem State.setRes_arg : (s.setRes r).arg = s.arg := rfl

@[simp] theorem State.setRes_res : (s.setRes r).res = some r := rfl

@[simp] theorem State.setRes_tfIn : (s.setRes r).tfIn = s.tfIn := rfl

@[simp] theorem State.setRes_tfOut : (s.setRes r).tfOut = s.tfOut := rfl

@[simp] theorem State.setRes_refused : (s.setRes r).refused = s.refused := rfl

@[simp] theorem State.setRes_faulted : (s.setRes r).faulted = s.faulted := rfl

@[simp] theorem State.setRes_chip : (s.setRes r).chip = s.chip := rfl

@[simp] theorem State.setRes_chipPtr : (s.setRes r).chipPtr = s.chipPtr := rfl

@[simp] theorem State.setRes_acc : (s.setRes r).acc = s.acc := rfl

@[simp] theorem State.setRes_program : (s.setRes r).program = s.program := rfl

@[simp] theorem State.setRes_hostPc : (s.setRes r).hostPc = s.hostPc := rfl

@[simp] theorem State.setRes_moves : (s.setRes r).moves = s.moves := rfl

@[simp] theorem State.setRes_draws : (s.setRes r).draws = s.draws := rfl

end setRes

section useDraws

variable (s : State) (n : Nat)

@[simp] theorem State.useDraws_chipPresence : (s.useDraws n).chipPresence = s.chipPresence := rfl

@[simp] theorem State.useDraws_fsm : (s.useDraws n).fsm = s.fsm := rfl

@[simp] theorem State.useDraws_latSec : (s.useDraws n).latSec = s.latSec := rfl

@[simp] theorem State.useDraws_req : (s.useDraws n).req = s.req := rfl

@[simp] theorem State.useDraws_done : (s.useDraws n).done = s.done := rfl

@[simp] theorem State.useDraws_code : (s.useDraws n).code = s.code := rfl

@[simp] theorem State.useDraws_tfv : (s.useDraws n).tfv = s.tfv := rfl

@[simp] theorem State.useDraws_arg : (s.useDraws n).arg = s.arg := rfl

@[simp] theorem State.useDraws_res : (s.useDraws n).res = s.res := rfl

@[simp] theorem State.useDraws_tfIn : (s.useDraws n).tfIn = s.tfIn := rfl

@[simp] theorem State.useDraws_tfOut : (s.useDraws n).tfOut = s.tfOut := rfl

@[simp] theorem State.useDraws_refused : (s.useDraws n).refused = s.refused := rfl

@[simp] theorem State.useDraws_faulted : (s.useDraws n).faulted = s.faulted := rfl

@[simp] theorem State.useDraws_chip : (s.useDraws n).chip = s.chip := rfl

@[simp] theorem State.useDraws_chipPtr : (s.useDraws n).chipPtr = s.chipPtr := rfl

@[simp] theorem State.useDraws_acc : (s.useDraws n).acc = s.acc := rfl

@[simp] theorem State.useDraws_program : (s.useDraws n).program = s.program := rfl

@[simp] theorem State.useDraws_hostPc : (s.useDraws n).hostPc = s.hostPc := rfl

@[simp] theorem State.useDraws_moves : (s.useDraws n).moves = s.moves := rfl

@[simp] theorem State.useDraws_draws : (s.useDraws n).draws = s.draws + n := rfl

end useDraws

section presence

variable (s : State) (count : Nat) (r : Response)

@[simp] theorem State.presence_chipPresence : (s.presence count r).chipPresence = presenceAfter count r s.chipPresence := rfl

@[simp] theorem State.presence_fsm : (s.presence count r).fsm = s.fsm := rfl

@[simp] theorem State.presence_latSec : (s.presence count r).latSec = s.latSec := rfl

@[simp] theorem State.presence_req : (s.presence count r).req = s.req := rfl

@[simp] theorem State.presence_done : (s.presence count r).done = s.done := rfl

@[simp] theorem State.presence_code : (s.presence count r).code = s.code := rfl

@[simp] theorem State.presence_tfv : (s.presence count r).tfv = s.tfv := rfl

@[simp] theorem State.presence_arg : (s.presence count r).arg = s.arg := rfl

@[simp] theorem State.presence_res : (s.presence count r).res = s.res := rfl

@[simp] theorem State.presence_tfIn : (s.presence count r).tfIn = s.tfIn := rfl

@[simp] theorem State.presence_tfOut : (s.presence count r).tfOut = s.tfOut := rfl

@[simp] theorem State.presence_refused : (s.presence count r).refused = s.refused := rfl

@[simp] theorem State.presence_faulted : (s.presence count r).faulted = s.faulted := rfl

@[simp] theorem State.presence_chip : (s.presence count r).chip = s.chip := rfl

@[simp] theorem State.presence_chipPtr : (s.presence count r).chipPtr = s.chipPtr := rfl

@[simp] theorem State.presence_acc : (s.presence count r).acc = s.acc := rfl

@[simp] theorem State.presence_program : (s.presence count r).program = s.program := rfl

@[simp] theorem State.presence_hostPc : (s.presence count r).hostPc = s.hostPc := rfl

@[simp] theorem State.presence_moves : (s.presence count r).moves = s.moves := rfl

@[simp] theorem State.presence_draws : (s.presence count r).draws = s.draws := rfl

end presence

section chipStore

variable (s : State) (start : Byte) (bs : List Byte) (p : Byte)

@[simp] theorem State.chipStore_chipPresence : (s.chipStore start bs p).chipPresence = s.chipPresence := rfl

@[simp] theorem State.chipStore_fsm : (s.chipStore start bs p).fsm = s.fsm := rfl

@[simp] theorem State.chipStore_latSec : (s.chipStore start bs p).latSec = s.latSec := rfl

@[simp] theorem State.chipStore_req : (s.chipStore start bs p).req = s.req := rfl

@[simp] theorem State.chipStore_done : (s.chipStore start bs p).done = s.done := rfl

@[simp] theorem State.chipStore_code : (s.chipStore start bs p).code = s.code := rfl

@[simp] theorem State.chipStore_tfv : (s.chipStore start bs p).tfv = s.tfv := rfl

@[simp] theorem State.chipStore_arg : (s.chipStore start bs p).arg = s.arg := rfl

@[simp] theorem State.chipStore_res : (s.chipStore start bs p).res = s.res := rfl

@[simp] theorem State.chipStore_tfIn : (s.chipStore start bs p).tfIn = s.tfIn := rfl

@[simp] theorem State.chipStore_tfOut : (s.chipStore start bs p).tfOut = s.tfOut := rfl

@[simp] theorem State.chipStore_refused : (s.chipStore start bs p).refused = s.refused := rfl

@[simp] theorem State.chipStore_faulted : (s.chipStore start bs p).faulted = s.faulted := rfl

@[simp] theorem State.chipStore_chip : (s.chipStore start bs p).chip = s.chip.writeBytes start.toNat bs := rfl

@[simp] theorem State.chipStore_chipPtr : (s.chipStore start bs p).chipPtr = p := rfl

@[simp] theorem State.chipStore_acc : (s.chipStore start bs p).acc = s.acc := rfl

@[simp] theorem State.chipStore_program : (s.chipStore start bs p).program = s.program := rfl

@[simp] theorem State.chipStore_hostPc : (s.chipStore start bs p).hostPc = s.hostPc := rfl

@[simp] theorem State.chipStore_moves : (s.chipStore start bs p).moves = s.moves := rfl

@[simp] theorem State.chipStore_draws : (s.chipStore start bs p).draws = s.draws := rfl

end chipStore

section blockReset

variable (s : State)

@[simp] theorem State.blockReset_chipPresence : s.blockReset.chipPresence = Config.initP s.draws := rfl

@[simp] theorem State.blockReset_fsm : s.blockReset.fsm = .idle := rfl

@[simp] theorem State.blockReset_latSec : s.blockReset.latSec = none := rfl

@[simp] theorem State.blockReset_req : s.blockReset.req = none := rfl

@[simp] theorem State.blockReset_done : s.blockReset.done = false := rfl

@[simp] theorem State.blockReset_code : s.blockReset.code = .none := rfl

@[simp] theorem State.blockReset_tfv : s.blockReset.tfv = false := rfl

@[simp] theorem State.blockReset_arg : s.blockReset.arg = none := rfl

@[simp] theorem State.blockReset_res : s.blockReset.res = none := rfl

@[simp] theorem State.blockReset_tfIn : s.blockReset.tfIn = none := rfl

@[simp] theorem State.blockReset_tfOut : s.blockReset.tfOut = none := rfl

@[simp] theorem State.blockReset_refused : s.blockReset.refused = s.refused := rfl

@[simp] theorem State.blockReset_faulted : s.blockReset.faulted = s.faulted := rfl

@[simp] theorem State.blockReset_chip : s.blockReset.chip = s.chip := rfl

@[simp] theorem State.blockReset_chipPtr : s.blockReset.chipPtr = s.chipPtr := rfl

@[simp] theorem State.blockReset_acc : s.blockReset.acc = s.acc := rfl

@[simp] theorem State.blockReset_program : s.blockReset.program = s.program := rfl

@[simp] theorem State.blockReset_hostPc : s.blockReset.hostPc = s.hostPc := rfl

@[simp] theorem State.blockReset_moves : s.blockReset.moves = s.moves := rfl

@[simp] theorem State.blockReset_draws : s.blockReset.draws = s.draws + 1 := rfl

end blockReset

@[simp] theorem State.chipTick_chipPresence (s : State) (t : TimeBlock) : (s.chipTick t).chipPresence = s.chipPresence := by
  unfold State.chipTick; split <;> rfl

@[simp] theorem State.chipTick_fsm (s : State) (t : TimeBlock) : (s.chipTick t).fsm = s.fsm := by
  unfold State.chipTick; split <;> rfl

@[simp] theorem State.chipTick_latSec (s : State) (t : TimeBlock) : (s.chipTick t).latSec = s.latSec := by
  unfold State.chipTick; split <;> rfl

@[simp] theorem State.chipTick_req (s : State) (t : TimeBlock) : (s.chipTick t).req = s.req := by
  unfold State.chipTick; split <;> rfl

@[simp] theorem State.chipTick_done (s : State) (t : TimeBlock) : (s.chipTick t).done = s.done := by
  unfold State.chipTick; split <;> rfl

@[simp] theorem State.chipTick_code (s : State) (t : TimeBlock) : (s.chipTick t).code = s.code := by
  unfold State.chipTick; split <;> rfl

@[simp] theorem State.chipTick_tfv (s : State) (t : TimeBlock) : (s.chipTick t).tfv = s.tfv := by
  unfold State.chipTick; split <;> rfl

@[simp] theorem State.chipTick_arg (s : State) (t : TimeBlock) : (s.chipTick t).arg = s.arg := by
  unfold State.chipTick; split <;> rfl

@[simp] theorem State.chipTick_res (s : State) (t : TimeBlock) : (s.chipTick t).res = s.res := by
  unfold State.chipTick; split <;> rfl

@[simp] theorem State.chipTick_tfIn (s : State) (t : TimeBlock) : (s.chipTick t).tfIn = s.tfIn := by
  unfold State.chipTick; split <;> rfl

@[simp] theorem State.chipTick_tfOut (s : State) (t : TimeBlock) : (s.chipTick t).tfOut = s.tfOut := by
  unfold State.chipTick; split <;> rfl

@[simp] theorem State.chipTick_refused (s : State) (t : TimeBlock) : (s.chipTick t).refused = s.refused := by
  unfold State.chipTick; split <;> rfl

@[simp] theorem State.chipTick_faulted (s : State) (t : TimeBlock) : (s.chipTick t).faulted = s.faulted := by
  unfold State.chipTick; split <;> rfl

@[simp] theorem State.chipTick_chipPtr (s : State) (t : TimeBlock) : (s.chipTick t).chipPtr = s.chipPtr := by
  unfold State.chipTick; split <;> rfl

@[simp] theorem State.chipTick_acc (s : State) (t : TimeBlock) : (s.chipTick t).acc = s.acc := by
  unfold State.chipTick; split <;> rfl

@[simp] theorem State.chipTick_program (s : State) (t : TimeBlock) : (s.chipTick t).program = s.program := by
  unfold State.chipTick; split <;> rfl

@[simp] theorem State.chipTick_hostPc (s : State) (t : TimeBlock) : (s.chipTick t).hostPc = s.hostPc := by
  unfold State.chipTick; split <;> rfl

@[simp] theorem State.chipTick_moves (s : State) (t : TimeBlock) : (s.chipTick t).moves = s.moves := by
  unfold State.chipTick; split <;> rfl

@[simp] theorem State.chipTick_draws (s : State) (t : TimeBlock) : (s.chipTick t).draws = s.draws := by
  unfold State.chipTick; split <;> rfl

@[simp] theorem State.tickBefore_chipPresence (s : State) (i : ReadInstant) : (s.tickBefore i).chipPresence = s.chipPresence := by
  unfold State.tickBefore; split <;> simp

@[simp] theorem State.tickBefore_fsm (s : State) (i : ReadInstant) : (s.tickBefore i).fsm = s.fsm := by
  unfold State.tickBefore; split <;> simp

@[simp] theorem State.tickBefore_latSec (s : State) (i : ReadInstant) : (s.tickBefore i).latSec = s.latSec := by
  unfold State.tickBefore; split <;> simp

@[simp] theorem State.tickBefore_req (s : State) (i : ReadInstant) : (s.tickBefore i).req = s.req := by
  unfold State.tickBefore; split <;> simp

@[simp] theorem State.tickBefore_done (s : State) (i : ReadInstant) : (s.tickBefore i).done = s.done := by
  unfold State.tickBefore; split <;> simp

@[simp] theorem State.tickBefore_code (s : State) (i : ReadInstant) : (s.tickBefore i).code = s.code := by
  unfold State.tickBefore; split <;> simp

@[simp] theorem State.tickBefore_tfv (s : State) (i : ReadInstant) : (s.tickBefore i).tfv = s.tfv := by
  unfold State.tickBefore; split <;> simp

@[simp] theorem State.tickBefore_arg (s : State) (i : ReadInstant) : (s.tickBefore i).arg = s.arg := by
  unfold State.tickBefore; split <;> simp

@[simp] theorem State.tickBefore_res (s : State) (i : ReadInstant) : (s.tickBefore i).res = s.res := by
  unfold State.tickBefore; split <;> simp

@[simp] theorem State.tickBefore_tfIn (s : State) (i : ReadInstant) : (s.tickBefore i).tfIn = s.tfIn := by
  unfold State.tickBefore; split <;> simp

@[simp] theorem State.tickBefore_tfOut (s : State) (i : ReadInstant) : (s.tickBefore i).tfOut = s.tfOut := by
  unfold State.tickBefore; split <;> simp

@[simp] theorem State.tickBefore_refused (s : State) (i : ReadInstant) : (s.tickBefore i).refused = s.refused := by
  unfold State.tickBefore; split <;> simp

@[simp] theorem State.tickBefore_faulted (s : State) (i : ReadInstant) : (s.tickBefore i).faulted = s.faulted := by
  unfold State.tickBefore; split <;> simp

@[simp] theorem State.tickBefore_chipPtr (s : State) (i : ReadInstant) : (s.tickBefore i).chipPtr = s.chipPtr := by
  unfold State.tickBefore; split <;> simp

@[simp] theorem State.tickBefore_acc (s : State) (i : ReadInstant) : (s.tickBefore i).acc = s.acc := by
  unfold State.tickBefore; split <;> simp

@[simp] theorem State.tickBefore_program (s : State) (i : ReadInstant) : (s.tickBefore i).program = s.program := by
  unfold State.tickBefore; split <;> simp

@[simp] theorem State.tickBefore_hostPc (s : State) (i : ReadInstant) : (s.tickBefore i).hostPc = s.hostPc := by
  unfold State.tickBefore; split <;> simp

@[simp] theorem State.tickBefore_moves (s : State) (i : ReadInstant) : (s.tickBefore i).moves = s.moves := by
  unfold State.tickBefore; split <;> simp

@[simp] theorem State.tickBefore_draws (s : State) (i : ReadInstant) : (s.tickBefore i).draws = s.draws := by
  unfold State.tickBefore; split <;> simp

end Sys2Proof.Machine
end

