-- ==== Sys2Proof/Laws/Ops.lean ====
section
/-! SUPPORT. For each shared operation, once, everything it can do: the issue checks, the two shapes of a response, the
environment's answers, the port accesses, and the step. -/

namespace Sys2Proof.Machine

variable {s t : State}

section Issue

/-- Issue of a form-N command takes it, or marks the state refused. -/
theorem issueN_next {k : State → State} :
    issueN s k = .next t ↔ (s.fsm = .idle ∧ t = k s.beginIssue) ∨ (s.fsm ≠ .idle ∧ t = s.refuse .issueWhileBusy) := by
  unfold issueN
  split <;> simp_all [eq_comm]

/-- Issue of a form-A command takes it, marks the state refused, or marks it faulted. -/
theorem issueA_next {k : Word16 → State → State} :
    issueA s k = .next t ↔ (s.fsm = .idle ∧ ∃ a, s.arg = some a ∧ t = k a s.beginIssue) ∨
      (s.fsm ≠ .idle ∧ t = s.refuse .issueWhileBusy) ∨
      (s.fsm = .idle ∧ s.arg = none ∧ t = s.fault .operandUnwritten) := by
  unfold issueA
  split
  · cases s.arg <;> simp_all [eq_comm]
  · simp_all [eq_comm]

/-- Issue of the form-T command takes it, marks the state refused, or marks it faulted. -/
theorem issueT_next {k : TimeFields → State → State} :
    issueT s k = .next t ↔ (s.fsm = .idle ∧ ∃ v, s.tfIn = some v ∧ t = k (TimeFields.unpack v) s.beginIssue) ∨
      (s.fsm ≠ .idle ∧ t = s.refuse .issueWhileBusy) ∨
      (s.fsm = .idle ∧ s.tfIn = none ∧ t = s.fault .operandUnwritten) := by
  unfold issueT
  split
  · cases s.tfIn <;> simp_all [eq_comm]
  · simp_all [eq_comm]

theorem issueN_busy {k : State → State} (h : s.fsm ≠ .idle) : issueN s k = .next (s.refuse .issueWhileBusy) := by
  simp [issueN, h]

theorem issueA_busy {k : Word16 → State → State} (h : s.fsm ≠ .idle) :
    issueA s k = .next (s.refuse .issueWhileBusy) := by
  simp [issueA, h]

theorem issueT_busy {k : TimeFields → State → State} (h : s.fsm ≠ .idle) :
    issueT s k = .next (s.refuse .issueWhileBusy) := by
  simp [issueT, h]

theorem issueA_none {k : Word16 → State → State} (h : s.fsm = .idle) (ha : s.arg = none) :
    issueA s k = .next (s.fault .operandUnwritten) := by
  simp [issueA, h, ha]

theorem issueT_none {k : TimeFields → State → State} (h : s.fsm = .idle) (ha : s.tfIn = none) :
    issueT s k = .next (s.fault .operandUnwritten) := by
  simp [issueT, h, ha]

/-- A busy block turns every command away. -/
theorem exec_busy (i : Instr) (h : s.fsm ≠ .idle) : exec i s = .next (s.refuse .issueWhileBusy) := by
  cases i <;>
    simp [exec, execRead, execWrite, execIsrunning, execGetcal, execSetcal, execChippresent, execHoursdec, execBcdenc,
      execBcddec, execYeardec, execYearenc, execHaltext, execCalenc, execCaldec, codecCommand, issueN, issueA, issueT, h]

end Issue

section Responses

@[simp] theorem presenceAfter_ok (n : Nat) (p : Bool) : presenceAfter n .ok p = true := rfl

@[simp] theorem presenceAfter_err (n : Nat) (p : Bool) : presenceAfter n .err p = false := rfl

theorem presenceAfter_full {n : Nat} {bs : List Byte} (h : n ≤ bs.length) (p : Bool) :
    presenceAfter n (.bytes bs) p = true := by simp [presenceAfter, h]

theorem presenceAfter_short {n : Nat} {bs : List Byte} (h : bs.length < n) (p : Bool) :
    presenceAfter n (.bytes bs) p = p := by
  have : ¬ n ≤ bs.length := by omega
  simp [presenceAfter, this]

theorem writeResponse_next {onOk : State → Result} {onErr : State → State} {r : Response} :
    writeResponse onOk onErr r s = .next t ↔
      (r = .ok ∧ onOk (s.presence 0 .ok) = .next t) ∨ (r = .err ∧ t = onErr (s.presence 0 .err)) := by
  cases r <;> simp [writeResponse, eq_comm]

theorem readResponse_next {n : Nat} {onBytes : List Byte → State → State} {onErr : State → State} {r : Response} :
    readResponse n onBytes onErr r s = .next t ↔
      (r = .err ∧ t = onErr (s.presence n .err)) ∨
      ∃ bs, r = .bytes bs ∧ t = onBytes bs (s.presence n (.bytes bs)) := by
  cases r <;> simp [readResponse, eq_comm]

theorem TimeBlock.ofBytes_none_iff (bs : List Byte) : TimeBlock.ofBytes bs = none ↔ bs.length < 7 := by
  rcases bs with _ | ⟨_, _ | ⟨_, _ | ⟨_, _ | ⟨_, _ | ⟨_, _ | ⟨_, _ | ⟨_, _⟩⟩⟩⟩⟩⟩⟩ <;>
    simp [TimeBlock.ofBytes]

end Responses

section Environment

/-- A tick touches the chip's registers alone, and keeps their addresses. -/
theorem chipTick_only (b : TimeBlock) (s : State) :
    ∃ m : Memory, m.addrs = Memory.addrs s.chip ∧ s.chipTick b = { s with chip := m } := by
  unfold State.chipTick
  split
  · exact ⟨s.chip, rfl, rfl⟩
  · exact ⟨_, Memory.addrs_writeBytes _ _ _, rfl⟩

theorem tickBefore_only (i : ReadInstant) (s : State) :
    ∃ m : Memory, m.addrs = Memory.addrs s.chip ∧ s.tickBefore i = { s with chip := m } := by
  unfold State.tickBefore
  split
  · exact chipTick_only _ _
  · exact ⟨s.chip, rfl, rfl⟩

/-- Reading bytes off the chip touches its registers alone, by the ticks between the bytes. -/
theorem readChip_only (a : Nat) (is : List ReadInstant) (s : State) :
    ∃ m : Memory, m.addrs = Memory.addrs s.chip ∧ (readChip a is s).2 = { s with chip := m } := by
  induction is generalizing a s with
  | nil => exact ⟨s.chip, rfl, rfl⟩
  | cons i is ih =>
    obtain ⟨m, hm, h⟩ := tickBefore_only i s
    obtain ⟨m', hm', h'⟩ := ih (a + 1) (s.tickBefore i)
    refine ⟨m', by rw [hm', h, hm], ?_⟩
    simp only [readChip]
    rw [h', h]

theorem readChip_length (a : Nat) (is : List ReadInstant) (s : State) : (readChip a is s).1.length = is.length := by
  induction is generalizing a s with
  | nil => rfl
  | cons i is ih => simp [readChip, ih]

/-- An answer touches the chip alone, and keeps its registers' addresses. -/
theorem serve_only (q : Request) (d : Answer) (s : State) :
    ∃ (m : Memory) (p : Byte), m.addrs = Memory.addrs s.chip ∧ (serve q d s).2 = { s with chip := m, chipPtr := p } := by
  unfold serve
  split
  · cases q <;> cases d <;> simp only [serveChip]
    · exact ⟨_, _, rfl, rfl⟩
    · split <;> exact ⟨_, _, rfl, rfl⟩
    · exact ⟨_, _, Memory.addrs_writeBytes _ _ _, rfl⟩
    · exact ⟨_, _, Memory.addrs_writeBytes _ _ _, rfl⟩
    · obtain ⟨m, hm, h⟩ := readChip_only s.chipPtr.toNat ‹_› s
      exact ⟨m, _, hm, by rw [h]⟩
    · exact ⟨_, _, rfl, rfl⟩
  · exact ⟨_, _, rfl, rfl⟩

@[simp] theorem serve_chipPresence (q : Request) (d : Answer) (s : State) : (serve q d s).2.chipPresence = s.chipPresence := by
  obtain ⟨m, p, -, h⟩ := serve_only q d s; rw [h]

@[simp] theorem serve_fsm (q : Request) (d : Answer) (s : State) : (serve q d s).2.fsm = s.fsm := by
  obtain ⟨m, p, -, h⟩ := serve_only q d s; rw [h]

@[simp] theorem serve_latSec (q : Request) (d : Answer) (s : State) : (serve q d s).2.latSec = s.latSec := by
  obtain ⟨m, p, -, h⟩ := serve_only q d s; rw [h]

@[simp] theorem serve_req (q : Request) (d : Answer) (s : State) : (serve q d s).2.req = s.req := by
  obtain ⟨m, p, -, h⟩ := serve_only q d s; rw [h]

@[simp] theorem serve_done (q : Request) (d : Answer) (s : State) : (serve q d s).2.done = s.done := by
  obtain ⟨m, p, -, h⟩ := serve_only q d s; rw [h]

@[simp] theorem serve_code (q : Request) (d : Answer) (s : State) : (serve q d s).2.code = s.code := by
  obtain ⟨m, p, -, h⟩ := serve_only q d s; rw [h]

@[simp] theorem serve_tfv (q : Request) (d : Answer) (s : State) : (serve q d s).2.tfv = s.tfv := by
  obtain ⟨m, p, -, h⟩ := serve_only q d s; rw [h]

@[simp] theorem serve_arg (q : Request) (d : Answer) (s : State) : (serve q d s).2.arg = s.arg := by
  obtain ⟨m, p, -, h⟩ := serve_only q d s; rw [h]

@[simp] theorem serve_res (q : Request) (d : Answer) (s : State) : (serve q d s).2.res = s.res := by
  obtain ⟨m, p, -, h⟩ := serve_only q d s; rw [h]

@[simp] theorem serve_tfIn (q : Request) (d : Answer) (s : State) : (serve q d s).2.tfIn = s.tfIn := by
  obtain ⟨m, p, -, h⟩ := serve_only q d s; rw [h]

@[simp] theorem serve_tfOut (q : Request) (d : Answer) (s : State) : (serve q d s).2.tfOut = s.tfOut := by
  obtain ⟨m, p, -, h⟩ := serve_only q d s; rw [h]

@[simp] theorem serve_refused (q : Request) (d : Answer) (s : State) : (serve q d s).2.refused = s.refused := by
  obtain ⟨m, p, -, h⟩ := serve_only q d s; rw [h]

@[simp] theorem serve_faulted (q : Request) (d : Answer) (s : State) : (serve q d s).2.faulted = s.faulted := by
  obtain ⟨m, p, -, h⟩ := serve_only q d s; rw [h]

@[simp] theorem serve_acc (q : Request) (d : Answer) (s : State) : (serve q d s).2.acc = s.acc := by
  obtain ⟨m, p, -, h⟩ := serve_only q d s; rw [h]

@[simp] theorem serve_program (q : Request) (d : Answer) (s : State) : (serve q d s).2.program = s.program := by
  obtain ⟨m, p, -, h⟩ := serve_only q d s; rw [h]

@[simp] theorem serve_hostPc (q : Request) (d : Answer) (s : State) : (serve q d s).2.hostPc = s.hostPc := by
  obtain ⟨m, p, -, h⟩ := serve_only q d s; rw [h]

@[simp] theorem serve_moves (q : Request) (d : Answer) (s : State) : (serve q d s).2.moves = s.moves := by
  obtain ⟨m, p, -, h⟩ := serve_only q d s; rw [h]

@[simp] theorem serve_draws (q : Request) (d : Answer) (s : State) : (serve q d s).2.draws = s.draws := by
  obtain ⟨m, p, -, h⟩ := serve_only q d s; rw [h]

theorem serve_addrs (q : Request) (d : Answer) (s : State) :
    Memory.addrs (serve q d s).2.chip = Memory.addrs s.chip := by
  obtain ⟨m, p, hm, h⟩ := serve_only q d s; rw [h]; exact hm

/-- A `PtrWrite` to the chip that is answered `Ok` leaves the pointer at its register (20_memory.md R59 item 3). -/
theorem serve_ptrWrite_ok {reg : Byte} {d : Answer} {s : State} (h : (serve (.ptrWrite Config.devAddr reg) d s).1 = .ok) :
    (serve (.ptrWrite Config.devAddr reg) d s).2.chipPtr = reg := by
  cases d
  · rfl
  · simp [serve, serveChip, Request.dev] at h

/-- The environment answers a request with a response it admits (20_memory.md R58). -/
theorem serve_admitted (q : Request) (d : Answer) (s : State) : q.admits (serve q d s).1 = true := by
  unfold serve
  split <;> cases q <;> cases d <;> simp [serveChip, serveOther, Request.admits]

end Environment

section Ports

/-- A port read fills the accumulator or sets a mark. -/
theorem portRead_next {n : Nat} (h : portRead n s = .next t) :
    (∃ v, t = { s with acc := v }) ∨ t = s.fault .readOfNone ∨ t = s.refuse .badPortAccess := by
  unfold portRead at h
  split at h
  · simp at h; exact .inr (.inr h.symm)
  · simp at h; exact .inr (.inr h.symm)
  · split at h <;> simp at h
    · exact .inl ⟨_, h.symm⟩
    · exact .inr (.inl h.symm)

/-- A port write is a command, or writes one operand port, or marks the state refused. -/
theorem portWrite_next {n : Nat} {v : Word64} (h : portWrite n v s = .next t) :
    (n = 0 ∧ ∃ i, decode (v.setWidth 8) = .ok i ∧ exec i s = .next t) ∨
    (n = 2 ∧ t = { s with arg := some (v.setWidth 16) }) ∨ (n = 4 ∧ t = { s with tfIn := some v }) ∨
    (∃ r, t = s.refuse r) := by
  unfold portWrite at h
  rcases n with _ | _ | _ | _ | _ | _ | n <;> simp [Port.ofNumber] at h
  · unfold writeCmd at h
    split at h
    · exact .inl ⟨rfl, _, by assumption, h⟩
    · simp at h; exact .inr (.inr (.inr ⟨_, h.symm⟩))
  · exact .inr (.inr (.inr ⟨_, h.symm⟩))
  · simp [h]
  · exact .inr (.inr (.inr ⟨_, h.symm⟩))
  · simp [h]
  · exact .inr (.inr (.inr ⟨_, h.symm⟩))
  · exact .inr (.inr (.inr ⟨_, h.symm⟩))

end Ports

section Step

theorem step_wait (h : s.moves = []) : step s = .next s := by simp [step, takeMove, h]

theorem step_move {m : Move} {rest : List Move} (h : s.moves = m :: rest) :
    step s = perform m { s with moves := rest } := by simp [step, takeMove, h]

/-- A step waits, or performs the oldest pending act. -/
theorem step_cases (h : step s = .next t) :
    (s.moves = [] ∧ t = s) ∨
    ∃ m rest, s.moves = m :: rest ∧ perform m { s with moves := rest } = .next t := by
  rcases hm : s.moves with _ | ⟨m, rest⟩
  · left; rw [step_wait hm] at h; simp at h; exact ⟨rfl, h.symm⟩
  · right; exact ⟨m, rest, rfl, by rw [← step_move hm, h]⟩

end Step

end Sys2Proof.Machine
end

