-- ==== Sys2Proof/Laws/PerInstr.lean ====
section
/-! SUPPORT. Statements about every command as a word, one lemma per constructor. -/

namespace Sys2Proof.Laws.Encoding

/-- The word of a command passes both checks of 30_encoding.md R83 and decodes to that command with no byte left over. -/
def Statement (i : Instr) : Prop :=
  i.wellFormed = true ∧ CmdWord.wellFormed (encode i) = true ∧
    ∀ rest, decodeBytes (encode i :: rest) = .ok (i, rest)

theorem read : Statement .read := ⟨rfl, rfl, fun _ => rfl⟩
theorem write : Statement .write := ⟨rfl, rfl, fun _ => rfl⟩
theorem isrunning : Statement .isrunning := ⟨rfl, rfl, fun _ => rfl⟩
theorem getcal : Statement .getcal := ⟨rfl, rfl, fun _ => rfl⟩
theorem setcal : Statement .setcal := ⟨rfl, rfl, fun _ => rfl⟩
theorem chippresent : Statement .chippresent := ⟨rfl, rfl, fun _ => rfl⟩
theorem hoursdec : Statement .hoursdec := ⟨rfl, rfl, fun _ => rfl⟩
theorem bcdenc : Statement .bcdenc := ⟨rfl, rfl, fun _ => rfl⟩
theorem bcddec : Statement .bcddec := ⟨rfl, rfl, fun _ => rfl⟩
theorem yeardec : Statement .yeardec := ⟨rfl, rfl, fun _ => rfl⟩
theorem yearenc : Statement .yearenc := ⟨rfl, rfl, fun _ => rfl⟩
theorem haltext : Statement .haltext := ⟨rfl, rfl, fun _ => rfl⟩
theorem calenc : Statement .calenc := ⟨rfl, rfl, fun _ => rfl⟩
theorem caldec : Statement .caldec := ⟨rfl, rfl, fun _ => rfl⟩

end Sys2Proof.Laws.Encoding
end

