-- ==== Sys2Proof/Tests/Slice0.lean ====
section
/-! SUPPORT. Tests of one step each, their expected results from the vectors of 95_test_vectors.md and the words of
30_encoding.md R82; the checks of WellFormed on ill-formed terms; and for each statement a witness that meets its
hypotheses. -/

namespace Sys2Proof.Tests

open Sys2Proof.Machine Sys2Proof.Claims

/-! ### Ill-formed terms, one for each check -/

theorem test_mbz_check_refuses : CmdWord.mbzClear 0x11#8 = false := by decide
theorem test_op_zero_check_refuses : CmdWord.opAssigned 0x00#8 = false := by decide
theorem test_op_fifteen_check_refuses : CmdWord.opAssigned 0x0F#8 = false := by decide
theorem test_word_check_refuses : CmdWord.wellFormed 0xFF#8 = false ∧ CmdWord.wellFormed 0x0E#8 = true := by decide
theorem test_absent_port_refused : Access.wellFormed (.write 6 0) = false ∧ Access.wellFormed (.read 6) = false := by decide
theorem test_read_only_port_refused : Access.wellFormed (.write 1 0) = false := by decide
theorem test_write_only_port_refused : Access.wellFormed (.read 0) = false := by decide
theorem test_wide_value_refused : Access.wellFormed (.write 2 0x10000#64) = false := by decide
theorem test_wide_bit_refused : Stmt.wellFormed 4 (.jz0 64 0) = false := by decide
theorem test_far_target_refused : Stmt.wellFormed 4 (.jz0 1 5) = false := by decide
theorem test_bad_access_statement_refused : Stmt.wellFormed 4 (.access (.read 0)) = false := by decide
theorem test_wrong_form_refused :
    PseudoLine.wellFormed (.runN .setcal) = false ∧ PseudoLine.wellFormed (.runA .read 0) = false := by decide

/-! ### Decoding: words written out bit by bit from 30_encoding.md R81 and R82 -/

theorem test_decode_fsm_words :
    [0b00000001, 0b00000010, 0b00000011, 0b00000100, 0b00000101, 0b00000110].map (decodeTableWord 8) =
      [some .read, some .write, some .isrunning, some .getcal, some .setcal, some .chippresent] := by decide

theorem test_decode_codec_words :
    [0b00000111, 0b00001000, 0b00001001, 0b00001010, 0b00001011, 0b00001100, 0b00001101, 0b00001110].map
      (decodeTableWord 8) =
      [some .hoursdec, some .bcdenc, some .bcddec, some .yeardec, some .yearenc, some .haltext, some .calenc,
        some .caldec] := by decide

/-- T22's words. -/
theorem test_decode_reserved : [0x00, 0x0F, 0x11, 0xFF].map (decodeTableWord 8) = [none, none, none, none] := by decide

/-! ### A small state -/

/-- The chip of vector T1, with 0x11 in the calibration register (T16). -/
def chip : Memory :=
  [(0, 0x30#8), (1, 0x45#8), (2, 0x13#8), (3, 0x03#8), (4, 0x11#8), (5, 0x11#8), (6, 0x26#8), (7, 0x11#8)]

/-- An idle block beside that chip. -/
def base : State where
  chipPresence := true
  fsm := .idle
  latSec := none
  req := none
  done := false
  code := .none
  tfv := false
  arg := none
  res := none
  tfIn := none
  tfOut := none
  refused := false
  faulted := false
  chip := chip
  chipPtr := 0
  acc := 0
  program := []
  hostPc := 0
  moves := []
  draws := 1

/-- `base` with ARG written. -/
def withArg (v : Word16) : State := { base with arg := some v }

/-- The fields of vector T7 in TF_IN. -/
def withTime : State := { base with tfIn := some (TimeFields.pack ⟨5, 0, 0, 7, 31, 12, 2099⟩) }

/-- A busy block in sequencer state `f` with request `r`. -/
def busy (f : Fsm) (r : Request) : State := { base with fsm := f, req := some r }

/-- WRITE in phase 1 with T7's image and latch. -/
def phaseOne : State :=
  { busy .wrP1 (.blockWrite 0x68 0x00 [0x85, 0x00, 0x00, 0x07, 0x31, 0x12, 0x99]) with latSec := some 0x05 }

/-- The same state with these acts pending. -/
def acts (s : State) (ms : List Move) : State := { s with moves := ms }

/-- What holds of the next state. -/
def next (r : Result) (p : State → Bool) : Bool :=
  match r with
  | .next t => p t
  | .fault _ => false
  | .refused _ => false

/-- The marks after a step: refused, faulted. -/
def marksOf (r : Result) : Option (Bool × Bool) :=
  match r with
  | .next t => some (t.refused, t.faulted)
  | .fault _ => none
  | .refused _ => none

/-- RES after a command on this ARG. -/
def resAfter (i : Instr) (a : Word16) : Option Word16 :=
  match exec i (withArg a) with
  | .next t => t.res
  | .fault _ => none
  | .refused _ => none

/-! ### The Codec commands -/

/-- V1, V1c. -/
theorem test_bcdenc : [0, 9, 10, 45, 59, 99, 0x0163].map (resAfter .bcdenc) =
    [some 0x0000, some 0x0009, some 0x0010, some 0x0045, some 0x0059, some 0x0099, some 0x0099] := by decide

/-- V1b: the byte is the draw, the upper byte 0. -/
theorem test_bcdenc_overflow : resAfter .bcdenc 100 = some ((Config.bcdOverflow 1 100).setWidth 16) := by rfl

/-- V2, V2b. -/
theorem test_bcddec : [0x00, 0x09, 0x10, 0x59, 0x99, 0x1A, 0x0F, 0xA0, 0xFF].map (resAfter .bcddec) =
    [some 0, some 9, some 10, some 59, some 99, some 20, some 15, some 100, some 165] := by decide

/-- V3. -/
theorem test_yeardec : [0, 26, 99, 165, 255].map (resAfter .yeardec) =
    [some 2000, some 0x07EA, some 2099, some 2165, some 2255] := by decide

/-- V4, V5. -/
theorem test_yearenc : [2000, 2026, 2099, 2100, 2105, 65535].map (resAfter .yearenc) =
    [some 0, some 26, some 99, some 0, some 5, some 35] := by decide

/-- V5b. -/
theorem test_yearenc_pre2000 : resAfter .yearenc 1999 = some (Config.pre2000Year 1 1999) := by
  simp [resAfter, exec, execYearenc, issueA, withArg, base, State.useDraws, State.resultAtIssue, State.beginIssue,
    fieldFromYear, operandU16, zext16, Config.yearBase]

/-- V6, V6b. -/
theorem test_haltext : [0x00, 0x80, 0x59, 0xD9, 0xB0, 0x7F, 0xFF].map (resAfter .haltext) =
    [some 0x0000, some 0x0100, some 0x003B, some 0x013B, some 0x011E, some 0x0055, some 0x0155] := by decide

/-- V7, V7b, V7c. -/
theorem test_hoursdec : [0x00, 0x13, 0x23, 0x53, 0x63, 0x40, 0x92, 0xC5, 0xFF].map (resAfter .hoursdec) =
    [some 0, some 13, some 23, some 13, some 23, some 0, some 92, some 85, some 125] := by decide

/-- V8, V9. -/
theorem test_calenc :
    [0xFFEF, 17, 0, 31, 0xFFE1, 32, 0xFFE0, 33, 0xFFDF, 127, 0xFF80, 0xFFFF].map (resAfter .calenc) =
      [some 0x11, some 0x31, some 0x20, some 0x3F, some 0x1F, some 0x20, some 0x00, some 0x21, some 0x01, some 0x3F,
        some 0x00, some 0x01] := by decide

/-- V10, V10b. -/
theorem test_caldec : [0x11, 0x31, 0x20, 0x00, 0x3F, 0x1F, 0xFF, 0xDF, 0xC0, 0x40].map (resAfter .caldec) =
    [some 0xFFEF, some 0x0011, some 0, some 0, some 31, some 0xFFE1, some 31, some 0xFFE1, some 0, some 0] := by decide

/-- T20, T21: after P = 0 and P = 1. -/
theorem test_chippresent :
    next (exec .chippresent { base with chipPresence := false }) (fun t => t.res = some 0 ∧ t.status = 0x02) = true ∧
    next (exec .chippresent { base with tfv := true }) (fun t => t.res = some 1 ∧ t.status = 0x22) = true := by decide

/-! ### The transport commands -/

/-- T1, T2: the data step's answer gives the fields, or CLOCKHALTED and none. -/
theorem test_read_outcomes :
    next (respond (.bytes [0x30, 0x45, 0x13, 0x03, 0x11, 0x11, 0x26]) (busy .rdData (.blockRead 0x68 7)))
      (fun t => t.tfOut = some 0x07EA0B0B030D2D1E ∧ t.status = 0x26) = true ∧
    next (respond (.bytes [0xB0, 0x45, 0x13, 0x03, 0x11, 0x11, 0x26]) (busy .rdData (.blockRead 0x68 7)))
      (fun t => t.tfOut = none ∧ t.status = 0x12) = true := by decide

/-- T5b, T6b: the short read comes before the halt check; an eighth byte is ignored. -/
theorem test_read_lengths :
    next (respond (.bytes [0x80, 0, 0, 0, 0, 0]) (busy .rdData (.blockRead 0x68 7)))
      (fun t => t.tfOut = none ∧ t.status = 0x0E ∧ t.chipPresence) = true ∧
    next (respond (.bytes [0x30, 0x45, 0x13, 0x03, 0x11, 0x11, 0x26, 0xAA]) (busy .rdData (.blockRead 0x68 7)))
      (fun t => t.tfOut = some 0x07EA0B0B030D2D1E) = true := by decide

/-- T7: the phase-1 image and the latch. -/
theorem test_write_issue : next (exec .write withTime) (fun t =>
    t.req = some (.blockWrite 0x68 0x00 [0x85, 0x00, 0x00, 0x07, 0x31, 0x12, 0x99]) ∧ t.latSec = some 0x05 ∧
    t.status = 0x01) = true := by decide

/-- T7, T27: phase 2 sends the latched byte, whatever TF_IN holds by then. -/
theorem test_write_phase_two : next (respond .ok { phaseOne with tfIn := some 0 }) (fun t =>
    t.req = some (.blockWrite 0x68 0x00 [0x05]) ∧ t.fsm = .wrP2) = true := by decide

/-- T12, T12b, T12c, T13b. -/
theorem test_isrunning_outcomes :
    [[0x59], [0x80], [0x7F], []].map (fun bs =>
      next (respond (.bytes bs) (busy .irData (.blockRead 0x68 1))) (fun t => t.status = 0x02 ∧ t.chipPresence ∧
        t.res = some (if bs = [0x80#8] then 1 else if bs = [] then 2 else 0))) = [true, true, true, true] := by decide

/-- T14, T16. -/
theorem test_getcal_outcomes :
    next (respond .err (busy .gcPtr (.ptrWrite 0x68 0x07))) (fun t => t.res = some 0x0040 ∧ !t.chipPresence) = true ∧
    next (respond (.bytes [0x11]) (busy .gcData (.blockRead 0x68 1))) (fun t => t.res = some 0xFFEF) = true := by decide

/-- T18, T18b. -/
theorem test_setcal_request :
    [(0xFFEF#16, 0x11#8), (0, 0x20), (17, 0x31), (100, 0x24), (0xFF80, 0x00)].map (fun p =>
      next (exec .setcal (withArg p.1)) (fun t => t.req = some (.blockWrite 0x68 0x07 [p.2]))) =
      [true, true, true, true, true] := by decide

/-! ### The chip and the ports -/

/-- T9, T9b: a failed phase 2 leaves the phase-1 seconds or its own byte on the chip. -/
theorem test_failed_phase_two_prefix :
    next (answerRequest (.failure 0 0) (busy .wrP2 (.blockWrite 0x68 0x00 [0x05])))
      (fun t => t.chip.read 0 = some 0x30 ∧ t.status = 0x0A) = true ∧
    next (answerRequest (.failure 1 0) (busy .wrP2 (.blockWrite 0x68 0x00 [0x05])))
      (fun t => t.chip.read 0 = some 0x05 ∧ t.status = 0x0A) = true := by decide

/-- T16 on the chip itself: GETCAL reads register 0x07. -/
theorem test_read_through_pointer :
    next (answerRequest (.success [⟨none, 0⟩] 0) { busy .gcData (.blockRead 0x68 1) with chipPtr := 0x07 })
      (fun t => t.res = some 0xFFEF) = true := by decide

/-- Another master's `PtrWrite` between GETCAL's two requests (R59 items 3 and 7): GETCAL then reads register 0x00, whose 0x30
decodes to 16 (R128). -/
theorem test_other_master_moves_pointer :
    next (Sys2Proof.core.run 2 (acts { busy .gcData (.blockRead 0x68 1) with chipPtr := 0x07 }
      [.otherMaster [] 0x00, .answer (.success [⟨none, 0⟩] 0)])) (fun t => t.res = some 0x0010) = true := by decide

/-- T22, T23, T24b: refusals. -/
theorem test_refusals :
    [acts base [command 0x00], acts base [command 0x0F], acts base [command 0x11], acts base [command 0xFF],
     acts base [.access (.read 0)], acts base [.access (.write 1 0)], acts base [.access (.write 3 0)],
     acts base [.access (.write 5 0)], acts base [.access (.read 6)],
     acts (busy .wrP2 (.blockWrite 0x68 0x00 [0x05])) [command 0x08]].map (fun s => marksOf (step s)) =
      List.replicate 10 (some (true, false)) := by decide

/-- T25, T25b, T26, T26b: faults. -/
theorem test_faults :
    [acts base [command 0x08], acts base [command 0x02], acts base [.access (.read 3)], acts base [.access (.read 5)],
     acts (busy .irData (.blockRead 0x68 1)) [.access (.read 3)]].map (fun s => marksOf (step s)) =
      List.replicate 5 (some (false, true)) := by decide

/-- T24: the READ in flight is unaffected by a refused command. -/
theorem test_refusal_leaves_read :
    step (acts (busy .rdData (.blockRead 0x68 7)) [command 0x01]) =
      .next { busy .rdData (.blockRead 0x68 7) with refused := true } := by rfl

/-- P1's statements, assembled: the accesses of its table. -/
theorem test_assemble_p1 :
    assemble [.tf ⟨0, 30, 12, 4, 15, 6, 2025⟩, .runN .write, .runN .read, .base (.input 5)] =
      some [.access (.write 4 0x07E9060F040C1E00), .access (.write 0 0x02), .access (.read 1), .jz0 1 2,
        .access (.write 0 0x01), .access (.read 1), .jz0 1 5, .access (.read 5)] := by decide

/-- P2 line 1: a negative value on ARG is stored as `v + 65536`. -/
theorem test_assemble_negative :
    assemble [.runA .setcal (-17)] = some [.access (.write 2 0xFFEF), .access (.write 0 0x05), .access (.read 1),
      .jz0 1 2] := by decide

/-- R173: what `getCalibration` and `isRunning` return. -/
theorem test_host_functions :
    hostGetCalibration { base with res := some 0xFFEF } = some (-17) ∧
    hostIsRunning { base with res := some 2 } = some .unknown ∧ hostReadFields base = none ∧
    hostChipPresent { base with res := some 1 } = some true := by decide

/-! ### Witnesses: for each statement with hypotheses, states and operands that meet them -/

/-- Pending acts are no part of the invariant. -/
theorem acts_inv {s : State} (h : s.Inv) (ms : List Move) : (acts s ms).Inv :=
  ⟨h.1, h.2, h.3, h.4, h.5, h.6, h.7, h.8, h.9⟩

theorem base_inv : base.Inv := by
  constructor <;> simp [base, State.requestFits, Fsm.afterFirstOk, chip]

theorem phaseOne_inv : phaseOne.Inv := by
  constructor <;> simp [phaseOne, busy, base, State.requestFits, Fsm.afterFirstOk, chip]
  exact ⟨0x05, by decide, by decide⟩

theorem rdPtr_inv : (busy .rdPtr (.ptrWrite 0x68 0x00)).Inv := by
  constructor <;> simp [busy, base, State.requestFits, Fsm.afterFirstOk, chip]

theorem gcPtr_inv : (busy .gcPtr (.ptrWrite 0x68 0x07)).Inv := by
  constructor <;> simp [busy, base, State.requestFits, Fsm.afterFirstOk, chip]

theorem rdData_inv : (busy .rdData (.blockRead 0x68 7)).Inv := by
  constructor <;> simp [busy, base, State.requestFits, Fsm.afterFirstOk, chip]

/-- `base` after a READ that ended OK. -/
def finished : State := { base with done := true, code := .ok, tfv := true, tfOut := some 0x07EA0B0B030D2D1E }

theorem finished_inv : finished.Inv := by
  constructor <;> simp [finished, base, State.requestFits, Fsm.afterFirstOk, chip]
  simp [TimeFieldsInRange, TimeFields.unpack]

/-- Both operand registers written. -/
def withBoth : State := { base with arg := some 99, tfIn := some (TimeFields.pack ⟨5, 0, 0, 7, 31, 12, 2099⟩) }

/-- `base` beside a chip that is halted. -/
def haltedBase : State := { base with chip := chip.write 0 0xB0 }

/-- Running a host program that stands at this statement. -/
def atStmt (st : Stmt) : State := { acts base [.hostRuns] with program := [st] }

/-- Seven read instants with no tick. -/
def stillSeven : List ReadInstant := List.replicate 7 ⟨none, 0⟩

/-- What a tick of the tests sets. -/
def tock : TimeBlock := ⟨0x31, 0x45, 0x13, 0x03, 0x11, 0x11, 0x26⟩

theorem witness_BlockResetValues :
    (acts phaseOne [.reset 7 0xFF]).moves = .reset 7 0xFF :: [] ∧
    (acts base [.reset 0 0]).moves = .reset 0 0 :: [] ∧ (acts base [.reset 0 0]).req = none := by decide

theorem witness_StepKeepsInvariant :
    (acts phaseOne [.answer (.success [] 0)]).Inv ∧
    next (step (acts phaseOne [.answer (.success [] 0)])) (fun t => t.fsm = .wrP2) = true ∧
    (acts (busy .gcPtr (.ptrWrite 0x68 0x07)) [.answer (.success [] 0)]).Inv ∧
    (acts (busy .gcPtr (.ptrWrite 0x68 0x07)) [.answer (.success [] 0)]).PointerSet ∧
    ¬ (acts (busy .gcPtr (.ptrWrite 0x68 0x07)) [.answer (.success [] 0)]).otherMasterNext ∧
    next (step (acts (busy .gcPtr (.ptrWrite 0x68 0x07)) [.answer (.success [] 0)])) (fun t => t.fsm = .gcData) = true :=
  ⟨acts_inv phaseOne_inv _, by decide, acts_inv gcPtr_inv _, by simp [State.PointerSet, acts, busy],
    by simp [State.otherMasterNext, acts], by decide⟩

theorem witness_IllegalAccessesRefused :
    (∀ c ∈ [0x10#8, 0x00#8, 0x0F#8, 0xFF#8], (acts base [command c]).moves = command c :: [] ∧
      (c.toNat / 16 ≠ 0 ∨ c.toNat % 16 = 0 ∨ c.toNat % 16 = 15)) ∧
    (acts phaseOne [.access (.read 0)]).moves = .access (.read 0) :: [] ∧
    (∀ n ∈ [1, 3, 5], (acts base [.access (.write n 0)]).moves = .access (.write n 0) :: []) ∧
    (acts base [.access (.write 6 0)]).moves = .access (.write 6 0) :: [] ∧
    (acts base [.access (.read 6)]).moves = .access (.read 6) :: [] := by decide

theorem witness_StepRunsCommand :
    (acts base [.access (.write 0 0x01)]).moves = .access (.write 0 0x01) :: [] ∧
    decode ((0x01#64).setWidth 8) = .ok .read ∧ decodeTableWord 8 0x0E = some .caldec ∧
    (atStmt (.access (.write 0 0x0E))).moves = .hostRuns :: [] ∧
    (atStmt (.access (.write 0 0x0E))).program[(atStmt (.access (.write 0 0x0E))).hostPc]? =
      some (.access (.write 0 0x0E)) ∧ decode ((0x0E#64).setWidth 8) = .ok .caldec := by decide

theorem witness_AnswerRunsSequencer :
    (acts phaseOne [.answer (.failure 3 0)]).moves = .answer (.failure 3 0) :: [] ∧
    (acts phaseOne [.answer (.failure 3 0)]).req =
      some (.blockWrite 0x68 0x00 [0x85, 0x00, 0x00, 0x07, 0x31, 0x12, 0x99]) ∧
    (acts base [.answer (.failure 3 0)]).moves = .answer (.failure 3 0) :: [] ∧
    (acts base [.answer (.failure 3 0)]).req = none := by decide

theorem witness_IssueChecksInOrder :
    phaseOne.fsm ≠ .idle ∧ (base.fsm = .idle ∧ Instr.form .setcal = .a ∧ base.arg = none) ∧
    (Instr.form .write = .t ∧ base.tfIn = none) ∧ withBoth.fsm = .idle ∧
    (∀ i ∈ transport ++ oneStep, operandReady i withBoth) ∧ operandReady .read base ∧ operandReady .chippresent base := by
  simp [operandReady, phaseOne, busy, base, withBoth, Instr.form]

theorem witness_BcdencEncodes : (withArg 100).fsm = .idle ∧ (withArg 100).arg = some 100 ∧ base.arg = none := by decide
theorem witness_BcddecDecodes : (withArg 0x1A).fsm = .idle ∧ (withArg 0x1A).arg = some 0x1A ∧ base.arg = none := by decide
theorem witness_YeardecAddsTheBase : (withArg 255).fsm = .idle ∧ (withArg 255).arg = some 255 ∧ base.arg = none := by decide
theorem witness_YearencTakesModulo :
    (withArg 1999).fsm = .idle ∧ (withArg 1999).arg = some 1999 ∧ (withArg 2000).arg = some 2000 ∧ base.arg = none := by
  decide
theorem witness_HaltextSplitsTheSeconds :
    (withArg 0x80).fsm = .idle ∧ (withArg 0x80).arg = some 0x80 ∧ (withArg 0x7F).arg = some 0x7F ∧ base.arg = none := by
  decide
theorem witness_CalencIsSignMagnitude :
    (withArg 0xFF80).fsm = .idle ∧ (withArg 0xFF80).arg = some 0xFF80 ∧ (withArg 0).arg = some 0 ∧ base.arg = none := by
  decide
theorem witness_CaldecReadsSignMagnitude :
    (withArg 0x1F).fsm = .idle ∧ (withArg 0x1F).arg = some 0x1F ∧ (withArg 0x20).arg = some 0x20 ∧ base.arg = none := by
  decide
theorem witness_HoursdecIgnoresBitSix : (withArg 0x63).fsm = .idle ∧ (withArg 0x63).arg = some 0x63 ∧ base.arg = none := by
  decide
theorem witness_ChippresentReadsPresence :
    base.fsm = .idle ∧ base.chipPresence = true ∧ { base with chipPresence := false }.fsm = .idle := by decide

theorem witness_ReadTransaction :
    base.fsm = .idle ∧ (busy .rdPtr (.ptrWrite 0x68 0x00)).fsm = .rdPtr ∧ (busy .rdData (.blockRead 0x68 7)).fsm = .rdData ∧
    ([] : List Byte).length < 7 ∧ [0x80#8, 0, 0, 0, 0, 0].length < 7 ∧ 128 ≤ (0x80#8).toNat ∧ (0x7F#8).toNat < 128 := by
  decide

theorem witness_WriteTransaction :
    withTime.fsm = .idle ∧ withTime.tfIn = some (TimeFields.pack ⟨5, 0, 0, 7, 31, 12, 2099⟩) ∧ base.tfIn = none ∧
    phaseOne.fsm = .wrP1 ∧ phaseOne.latSec = some 0x05 ∧ (busy .wrP2 (.blockWrite 0x68 0x00 [0x05])).fsm = .wrP2 := by decide

theorem witness_IsrunningTransaction :
    base.fsm = .idle ∧ (busy .irPtr (.ptrWrite 0x68 0x00)).fsm = .irPtr ∧
    (busy .irData (.blockRead 0x68 1)).fsm = .irData ∧ 128 ≤ (0x80#8).toNat ∧ ¬ 128 ≤ (0x7F#8).toNat := by decide

theorem witness_GetcalTransaction :
    base.fsm = .idle ∧ (busy .gcPtr (.ptrWrite 0x68 0x07)).fsm = .gcPtr ∧
    (busy .gcData (.blockRead 0x68 1)).fsm = .gcData := by decide

theorem witness_SetcalTransaction :
    (withArg 0xFFEF).fsm = .idle ∧ (withArg 0xFFEF).arg = some 0xFFEF ∧ base.arg = none ∧
    (busy .scWr (.blockWrite 0x68 0x07 [0x3F])).fsm = .scWr := by decide

/-- Each command issued, and turned away by a busy block or a missing operand. -/
theorem witness_OneStepCommandFrame :
    (∀ i ∈ oneStep, next (exec i (withArg 99)) (fun t => t.done) = true ∧ ¬ turnedAway i (withArg 99)) ∧
    (∀ i ∈ oneStep, marksOf (exec i phaseOne) = some (true, false) ∧ turnedAway i phaseOne) ∧
    (marksOf (exec .bcdenc base) = some (false, true) ∧ turnedAway .bcdenc base) := by
  simp only [turnedAway, operandReady]; decide

theorem witness_TransportIssueFrame :
    (∀ i ∈ transport, next (exec i withBoth) (fun t => t.busy) = true ∧ ¬ turnedAway i withBoth) ∧
    (∀ i ∈ transport, marksOf (exec i phaseOne) = some (true, false) ∧ turnedAway i phaseOne) ∧
    (marksOf (exec .write base) = some (false, true) ∧ turnedAway .write base) := by
  simp only [turnedAway, operandReady]; decide

/-- A response that ends nothing, one that ends READ OK, and one that ends ISRUNNING. -/
theorem witness_ResponseFrame :
    next (respond .ok phaseOne) (fun t => ¬ (phaseOne.fsm = .rdData ∧ t.code = .ok)) = true ∧
    next (respond (.bytes [0x30, 0, 0, 0, 0, 0, 0]) (busy .rdData (.blockRead 0x68 7))) (fun t => t.code = .ok) = true ∧
    next (respond .err (busy .irPtr (.ptrWrite 0x68 0x00))) (fun t => t.res = some 2) = true := by decide

/-- The three kinds of request, answered; the edges of a BlockWrite's bytes; a halted chip, and a running one without a
tick. -/
theorem witness_AnswerChipFrame :
    next (answerRequest (.success [] 0) (busy .rdPtr (.ptrWrite 0x68 0x00))) (fun t => t.fsm = .rdData) = true ∧
    next (answerRequest (.failure 3 0) (busy .scWr (.blockWrite 0x68 0x07 [0x3F]))) (fun t => t.fsm = .idle) = true ∧
    (6 < (0x07#8).toNat ∧ (0x07#8).toNat + [0x3F#8].length ≤ 8) ∧
    next (answerRequest (.success stillSeven 0) (busy .rdData (.blockRead 0x68 7))) (fun t => t.code = .ok) = true ∧
    (∀ i ∈ stillSeven, i.tick = none) ∧
    next (answerRequest (.success [⟨some tock, 0⟩] 0) { haltedBase with fsm := .irData, req := some (.blockRead 0x68 1) })
      (fun t => t.res = some 1) = true ∧ haltedBase.chipHalted = true := by decide

theorem witness_BlockWriteLandsOnChip :
    phaseOne.Inv ∧ phaseOne.req = some (.blockWrite 0x68 0x00 [0x85, 0x00, 0x00, 0x07, 0x31, 0x12, 0x99]) ∧
    (∀ i ∈ [0, 6], i < [0x85#8, 0x00, 0x00, 0x07, 0x31, 0x12, 0x99].length ∧ i < i + 1 ∧ i ≤ i) :=
  ⟨phaseOne_inv, rfl, by decide⟩

theorem witness_StatusValues :
    (base.Inv ∧ base.fsm = .idle ∧ base.done = false) ∧ (finished.Inv ∧ finished.fsm = .idle ∧ finished.done = true) ∧
    (phaseOne.Inv ∧ phaseOne.fsm ≠ .idle) :=
  ⟨⟨base_inv, rfl, rfl⟩, ⟨finished_inv, rfl, rfl⟩, phaseOne_inv, by decide⟩

theorem witness_PortReadsValue :
    (withBoth.arg = some 99 ∧ withBoth.tfIn ≠ none ∧ finished.tfOut = some 0x07EA0B0B030D2D1E ∧
      { base with res := some 2 }.res = some 2) ∧
    base.arg = none ∧ base.res = none ∧ base.tfIn = none ∧ base.tfOut = none := by decide

theorem witness_OperandPortsAlwaysWritable :
    (acts phaseOne [.access (.write 2 0xFFFF)]).moves = .access (.write 2 0xFFFF) :: [] ∧
    (acts phaseOne [.access (.write 4 0)]).moves = .access (.write 4 0) :: [] ∧ phaseOne.fsm ≠ .idle := by decide

/-- Bit 0 and bit 63 of the accumulator, one clear and one set. -/
theorem witness_HostBranch :
    (atStmt (.jz0 0 0)).moves = .hostRuns :: [] ∧ (atStmt (.jz0 0 0)).program[0]? = some (.jz0 0 0) ∧
    (atStmt (.jz0 0 0)).acc.toNat / 2 ^ 0 % 2 = 0 ∧
    { atStmt (.jz0 63 1) with acc := 0x8000000000000000 }.acc.toNat / 2 ^ 63 % 2 = 1 := by decide

/-- Each kind of response, a short read and a full one. -/
theorem witness_PresenceLaw :
    (phaseOne.Inv ∧ next (respond .ok phaseOne) (fun t => t.busy) = true ∧
      next (respond .err phaseOne) (fun t => !t.busy) = true) ∧
    ((busy .rdData (.blockRead 0x68 7)).Inv ∧ (busy .rdData (.blockRead 0x68 7)).req = some (.blockRead 0x68 7) ∧
      (∀ bs ∈ [List.replicate 7 0#8, List.replicate 6 0#8],
        next (respond (.bytes bs) (busy .rdData (.blockRead 0x68 7))) (fun t => t.done) = true)) ∧
    next (exec .read base) (fun t => t.busy) = true :=
  ⟨⟨phaseOne_inv, by decide, by decide⟩, ⟨rdData_inv, rfl, by decide⟩, by decide⟩

theorem witness_PresenceReadByChippresentOnly : ∀ i ∈ transport, i ≠ Instr.chippresent := by decide

theorem witness_OnlyAnswersMoveBusySequencer :
    phaseOne.fsm ≠ .idle ∧
    next (step (acts phaseOne [.tick tock])) (fun t => t.fsm = .wrP1) = true ∧
    next (step (acts phaseOne [.answer (.success [] 0)])) (fun t => t.fsm = .wrP2) = true := by decide

theorem witness_FinishReturnsToIdle :
    phaseOne.fsm ≠ .idle ∧ next (step (acts phaseOne [.answer (.failure 0 0)])) (fun t => t.fsm = .idle) = true ∧
    next (step (acts phaseOne [.reset 7 0])) (fun t => t.fsm = .idle) = true := by decide

theorem witness_EveryAnswerIsAccepted :
    (acts phaseOne [.answer (.success [] 0)]).Inv ∧ phaseOne.fsm ≠ .idle ∧
    (acts phaseOne [.answer (.success [] 0)]).moves = .answer (.success [] 0) :: [] :=
  ⟨acts_inv phaseOne_inv _, by decide, rfl⟩

theorem witness_CommandsFinishInTwoAnswers :
    (acts phaseOne [.answer (.success [] 0), .answer (.success [] 0)]).Inv ∧ phaseOne.fsm ≠ .idle ∧
    (acts phaseOne [.answer (.success [] 0), .answer (.success [] 0)]).moves =
      .answer (.success [] 0) :: .answer (.success [] 0) :: [] :=
  ⟨acts_inv phaseOne_inv _, by decide, rfl⟩

/-- A request of each kind is sent: by GETCAL's issue, by WRITE's first `Ok`, by READ's and GETCAL's first `Ok`. -/
theorem witness_RequestsStayOnChip :
    ((acts base [command 0x04]).Inv ∧
      next (step (acts base [command 0x04])) (fun t => t.req = some (.ptrWrite 0x68 0x07)) = true) ∧
    ((acts phaseOne [.answer (.success [] 0)]).Inv ∧
      next (step (acts phaseOne [.answer (.success [] 0)])) (fun t => t.req = some (.blockWrite 0x68 0x00 [0x05])) = true) ∧
    ((acts (busy .rdPtr (.ptrWrite 0x68 0x00)) [.answer (.success [] 0)]).Inv ∧
      next (step (acts (busy .rdPtr (.ptrWrite 0x68 0x00)) [.answer (.success [] 0)]))
        (fun t => t.fsm = .rdData ∧ t.req = some (.blockRead 0x68 7)) = true) ∧
    ((acts (busy .gcPtr (.ptrWrite 0x68 0x07)) [.answer (.success [] 0)]).Inv ∧
      next (step (acts (busy .gcPtr (.ptrWrite 0x68 0x07)) [.answer (.success [] 0)]))
        (fun t => t.fsm = .gcData ∧ t.req = some (.blockRead 0x68 1)) = true) ∧
    ((acts (busy .gcPtr (.ptrWrite 0x68 0x07)) [.answer (.success [] 0)]).PointerSet ∧
      ¬ (acts (busy .gcPtr (.ptrWrite 0x68 0x07)) [.answer (.success [] 0)]).otherMasterNext) :=
  ⟨⟨acts_inv base_inv _, by decide⟩, ⟨acts_inv phaseOne_inv _, by decide⟩, ⟨acts_inv rdPtr_inv _, by decide⟩,
    ⟨acts_inv gcPtr_inv _, by decide⟩, by simp [State.PointerSet, acts, busy], by simp [State.otherMasterNext, acts]⟩

theorem witness_FirstFailureClearsPresence :
    withBoth.fsm = .idle ∧ ∀ i ∈ transport, operandReady i withBoth := by
  simp [operandReady, withBoth, base, transport, Instr.form]

theorem witness_SentinelMarksFailure : (busy .gcData (.blockRead 0x68 1)).fsm = .gcData := by decide

/-- No new mark on marked states, a new one of each kind, and one set by a host statement. -/
theorem witness_StopsChangeOnlyTheirMark :
    marksOf (step { base with refused := true, faulted := true }) = some (true, true) ∧
    marksOf (step (acts base [.reset 0 0])) = some (false, false) ∧
    marksOf (step (acts base [command 0x08])) = some (false, true) ∧
    marksOf (step (atStmt (.access (.read 0)))) = some (true, false) := by decide

/-- A busy block with an answer pending, an idle one with a tick pending, and one with nothing pending. -/
theorem witness_EveryActGoesOn :
    ((acts phaseOne [.answer (.success [] 0)]).Inv ∧ phaseOne.fsm ≠ .idle) ∧
    ((acts base [.tick tock]).Inv ∧ ∀ d, (acts base [.tick tock]).moves.head? ≠ some (.answer d)) ∧
    (base.Inv ∧ ∀ d, base.moves.head? ≠ some (.answer d)) :=
  ⟨⟨acts_inv phaseOne_inv _, by decide⟩, ⟨acts_inv base_inv _, by simp [acts]⟩, base_inv, by simp [base]⟩

/-- The edges of the laws' ranges. -/
theorem witness_CodecLaws :
    (99 ≤ 99 ∧ 2000 ≤ (2000#16).toNat ∧ (2099#16).toNat ≤ 2099) ∧
    ((0x99#8).toNat / 16 ≤ 9 ∧ (0x99#8).toNat % 16 ≤ 9) ∧
    (bcd2dec 0x99 ≤ 99 ∧ dec2bcd 1 (bcd2dec 0x99) = 0x99) ∧ 59 ≤ 59 ∧ 79 ≤ 79 ∧ 23 ≤ 23 := by decide

theorem witness_HaltedChipReadsConsistently : haltedBase.chipHalted = true ∧ 6 < stillSeven.length := by decide

theorem witness_TickMovesOnlyRunningChip :
    ((acts base [.tick tock]).Inv ∧ (acts base [.tick tock]).moves = .tick tock :: [] ∧
      (acts base [.tick tock]).chipHalted = false) ∧
    ((acts haltedBase [.tick tock]).Inv ∧ (acts haltedBase [.tick tock]).chipHalted = true) := by
  refine ⟨⟨acts_inv base_inv _, rfl, by decide⟩, acts_inv ?_ _, by decide⟩
  constructor <;> simp [haltedBase, base, State.requestFits, Fsm.afterFirstOk, chip, Memory.write]

/-- The acts of a WRITE and a READ of these fields. -/
def roundTrip (f : TimeFields) : List Move :=
  [.access (.write 4 f.pack), command 0x02, .answer (.success [] 0), .answer (.success [] 0), command 0x01,
   .answer (.success [] 0), .answer (.success stillSeven 0)]

/-- The least and the greatest fields of the chip's ranges. -/
theorem witness_WriteThenReadRoundTrip :
    ∀ f ∈ [TimeFields.mk 0 0 0 1 1 1 2000, TimeFields.mk 59 59 23 7 31 12 2099],
      (acts base (roundTrip f)).Inv ∧ base.fsm = .idle ∧ TimeFieldsChipValid f ∧ stillSeven.length = 7 ∧
      (∀ i ∈ stillSeven, i.tick = none) ∧ (acts base (roundTrip f)).moves = roundTrip f := by
  intro f hf
  refine ⟨acts_inv base_inv _, rfl, ?_, rfl, by decide, rfl⟩
  simp only [List.mem_cons, List.not_mem_nil, or_false] at hf
  rcases hf with rfl | rfl <;> simp [TimeFieldsChipValid]

/-- The acts of a failed phase 2 and an ISRUNNING. -/
def failedWrite : List Move :=
  [.answer (.success [] 0), .answer (.failure 0 0), command 0x03, .answer (.success [] 0), .answer (.success [⟨none, 0⟩] 0)]

theorem witness_PhaseTwoFailureIsDetected :
    (acts phaseOne failedWrite).Inv ∧ phaseOne.fsm = .wrP1 ∧
    phaseOne.req = some (.blockWrite 0x68 0x00 ((0x05#8 ||| 0x80#8) :: [0x00, 0x00, 0x07, 0x31, 0x12, 0x99])) ∧
    ([⟨none, 0⟩] : List ReadInstant).length = 1 ∧ (acts phaseOne failedWrite).moves = failedWrite :=
  ⟨acts_inv phaseOne_inv _, rfl, by decide, rfl, rfl⟩

/-- The acts of a SETCAL and a GETCAL of this value. -/
def calTrip (a : Word64) : List Move :=
  [.access (.write 2 a), command 0x05, .answer (.success [] 0), command 0x04, .answer (.success [] 0),
   .answer (.success [⟨some tock, 0⟩] 0)]

/-- Zero, a negative value, the least value, and one too wide for ARG. -/
theorem witness_CalibrationRoundTrip : ∀ a ∈ [0#64, 0xFFEF#64, 0xFF80#64, 0x1FFEF#64],
    (acts base (calTrip a)).Inv ∧ base.fsm = .idle ∧ ([⟨some tock, 0⟩] : List ReadInstant).length = 1 ∧
    (acts base (calTrip a)).moves = calTrip a := by
  intro a _
  exact ⟨acts_inv base_inv _, rfl, rfl, rfl⟩

end Sys2Proof.Tests
end

section
/-! PROOF. The family of 10_state.md: block reset and its values, STATUS, the operand ports, how a step runs a command, who may
move a busy sequencer, who reads P, and what a fault or a refusal changes. -/

namespace Sys2Proof.Machine

open Sys2Proof.Claims

variable {s t : State}

/-! ### The two halves of the state -/

/-- What no issue and no response writes: the operand ports, the marks, the chip, the host and the pending acts, every other
field put at its reset value. -/
def State.outside (s : State) : State :=
  { State.reset with
    arg := s.arg, tfIn := s.tfIn, refused := s.refused, faulted := s.faulted, chip := s.chip, chipPtr := s.chipPtr,
    acc := s.acc, program := s.program, hostPc := s.hostPc, moves := s.moves }

/-- The other half: the sequencer with its request and latch, P, STATUS, the two result ports and the draw counter. -/
def State.sequencer (s : State) : State :=
  { State.reset with
    chipPresence := s.chipPresence, fsm := s.fsm, latSec := s.latSec, req := s.req, done := s.done, code := s.code,
    tfv := s.tfv, res := s.res, tfOut := s.tfOut, draws := s.draws }

@[simp] theorem State.outside_beginIssue (s : State) : s.beginIssue.outside = s.outside := rfl

@[simp] theorem State.outside_presence (s : State) (n : Nat) (r : Response) : (s.presence n r).outside = s.outside := rfl

/-! ### Frames of issue and response -/

/-- Every issue part leaves the outside alone; what is turned away sets one mark (41_transactions.md R160). -/
theorem issueN_outside {k : State → State} (h : issueN s k = .next t) (hk : ∀ u, (k u).outside = u.outside) :
    t.outside = s.outside ∨ t = s.refuse .issueWhileBusy ∨ t = s.fault .operandUnwritten := by
  rcases issueN_next.1 h with ⟨-, rfl⟩ | ⟨-, rfl⟩
  · exact .inl ((hk _).trans s.outside_beginIssue)
  · exact .inr (.inl rfl)

theorem issueA_outside {k : Word16 → State → State} (h : issueA s k = .next t)
    (hk : ∀ a u, (k a u).outside = u.outside) :
    t.outside = s.outside ∨ t = s.refuse .issueWhileBusy ∨ t = s.fault .operandUnwritten := by
  rcases issueA_next.1 h with ⟨-, a, -, rfl⟩ | ⟨-, rfl⟩ | ⟨-, -, rfl⟩
  · exact .inl ((hk _ _).trans s.outside_beginIssue)
  · exact .inr (.inl rfl)
  · exact .inr (.inr rfl)

theorem issueT_outside {k : TimeFields → State → State} (h : issueT s k = .next t)
    (hk : ∀ f u, (k f u).outside = u.outside) :
    t.outside = s.outside ∨ t = s.refuse .issueWhileBusy ∨ t = s.fault .operandUnwritten := by
  rcases issueT_next.1 h with ⟨-, v, -, rfl⟩ | ⟨-, rfl⟩ | ⟨-, -, rfl⟩
  · exact .inl ((hk _ _).trans s.outside_beginIssue)
  · exact .inr (.inl rfl)
  · exact .inr (.inr rfl)

/-- A command that issues leaves the outside alone, and one that is turned away sets one mark and changes nothing else. -/
theorem exec_outside {i : Instr} (h : exec i s = .next t) :
    t.outside = s.outside ∨ t = s.refuse .issueWhileBusy ∨ t = s.fault .operandUnwritten := by
  cases i with
  | read | isrunning | getcal | chippresent =>
    simp only [exec, execRead, execIsrunning, execGetcal] at h
    exact issueN_outside h fun _ => rfl
  | write =>
    simp only [exec, execWrite] at h
    exact issueT_outside h fun _ _ => rfl
  | setcal | hoursdec | bcdenc | bcddec | yeardec | yearenc | haltext | calenc | caldec =>
    simp only [exec, execBcdenc, execYearenc] at h
    exact issueA_outside h fun _ _ => rfl

theorem writeResponse_outside {onOk : State → Result} {onErr : State → State} {r : Response}
    (h : writeResponse onOk onErr r s = .next t) (hOk : ∀ u, onOk u = .next t → t.outside = u.outside)
    (hErr : ∀ u, (onErr u).outside = u.outside) : t.outside = s.outside := by
  rcases writeResponse_next.1 h with ⟨-, hok⟩ | ⟨-, rfl⟩
  · exact (hOk _ hok).trans (s.outside_presence 0 .ok)
  · exact (hErr _).trans (s.outside_presence 0 .err)

theorem readResponse_outside {n : Nat} {onBytes : List Byte → State → State} {onErr : State → State} {r : Response}
    (h : readResponse n onBytes onErr r s = .next t) (hBytes : ∀ bs u, (onBytes bs u).outside = u.outside)
    (hErr : ∀ u, (onErr u).outside = u.outside) : t.outside = s.outside := by
  rcases readResponse_next.1 h with ⟨-, rfl⟩ | ⟨bs, -, rfl⟩
  · exact (hErr _).trans (s.outside_presence n .err)
  · exact (hBytes _ _).trans (s.outside_presence n (.bytes bs))

theorem readOutcome_outside (bs : List Byte) (u : State) : (readOutcome bs u).outside = u.outside := by
  unfold readOutcome
  split
  · rfl
  · split <;> rfl

theorem isrunningOutcome_outside (bs : List Byte) (u : State) : (isrunningOutcome bs u).outside = u.outside := by
  cases bs <;> rfl

theorem getcalOutcome_outside (bs : List Byte) (u : State) : (getcalOutcome bs u).outside = u.outside := by
  cases bs <;> rfl

/-- Phase 2 of WRITE sends, or stops on an empty latch. -/
theorem stepWrP1_outside {r : Response} (h : stepWrP1 r s = .next t) : t.outside = s.outside := by
  refine writeResponse_outside h (fun u hu => ?_) fun _ => rfl
  split at hu
  · cases hu; rfl
  · cases hu

/-- The sequencer's step at a response leaves the outside alone (41_transactions.md R171). -/
theorem respond_outside {r : Response} (h : respond r s = .next t) : t.outside = s.outside := by
  cases hf : s.fsm <;> rw [respond, hf] at h
  case idle => cases h
  case rdPtr | wrP2 | irPtr | gcPtr | scWr =>
    exact writeResponse_outside h (fun _ hu => by cases hu; rfl) fun _ => rfl
  case rdData => exact readResponse_outside h readOutcome_outside fun _ => rfl
  case wrP1 => exact stepWrP1_outside h
  case irData => exact readResponse_outside h isrunningOutcome_outside fun _ => rfl
  case gcData => exact readResponse_outside h getcalOutcome_outside fun _ => rfl

/-! ### Marks -/

/-- Both marks as they were. -/
def State.SameMarks (s t : State) : Prop := t.refused = s.refused ∧ t.faulted = s.faulted

/-- One mark set, and nothing else changed (10_state.md R25, 60_exceptions.md R228). -/
def State.OnlyMarked (s t : State) : Prop := t = { s with refused := true } ∨ t = { s with faulted := true }

theorem State.SameMarks.of_outside (h : t.outside = s.outside) : s.SameMarks t :=
  ⟨(congrArg State.refused h :), (congrArg State.faulted h :)⟩

theorem State.SameMarks.sticky (h : s.SameMarks t) :
    (s.refused = true → t.refused = true) ∧ (s.faulted = true → t.faulted = true) :=
  ⟨h.1.trans, h.2.trans⟩

theorem State.OnlyMarked.sticky (h : s.OnlyMarked t) :
    (s.refused = true → t.refused = true) ∧ (s.faulted = true → t.faulted = true) := by
  rcases h with rfl | rfl
  · exact ⟨fun _ => rfl, id⟩
  · exact ⟨id, fun _ => rfl⟩

theorem exec_marks {i : Instr} (h : exec i s = .next t) : s.SameMarks t ∨ s.OnlyMarked t := by
  rcases exec_outside h with h | rfl | rfl
  · exact .inl (.of_outside h)
  · exact .inr (.inl rfl)
  · exact .inr (.inr rfl)

/-- A port access keeps both marks, or sets one and does nothing else. -/
theorem performAccess_marks {a : Access} (h : performAccess a s = .next t) : s.SameMarks t ∨ s.OnlyMarked t := by
  cases a with
  | write n v =>
    rcases portWrite_next h with ⟨-, i, -, hi⟩ | ⟨-, rfl⟩ | ⟨-, rfl⟩ | ⟨r, rfl⟩
    · exact exec_marks hi
    · exact .inl ⟨rfl, rfl⟩
    · exact .inl ⟨rfl, rfl⟩
    · exact .inr (.inl rfl)
  | read n =>
    rcases portRead_next h with ⟨v, rfl⟩ | rfl | rfl
    · exact .inl ⟨rfl, rfl⟩
    · exact .inr (.inr rfl)
    · exact .inr (.inl rfl)

/-- The host's turn is a port access behind its program counter, a move of that counter, or nothing (30_encoding.md R91). -/
theorem hostStatement_next (h : hostStatement s = .next t) :
    (∃ a, performAccess a { s with hostPc := s.hostPc + 1 } = .next t) ∨ ∃ pc, t = { s with hostPc := pc } := by
  unfold hostStatement at h
  split at h
  · cases h; exact .inr ⟨_, rfl⟩
  · exact .inl ⟨_, h⟩
  · cases h; exact .inr ⟨_, rfl⟩

/-- An answer that goes on is the chip's part in the outstanding request, then the sequencer's step. -/
theorem answerRequest_next {d : Answer} (h : answerRequest d s = .next t) :
    ∃ q, s.req = some q ∧ respond (serve q d s).1 (serve q d s).2 = .next t := by
  cases hq : s.req with
  | none => simp [answerRequest, hq] at h
  | some q => exact ⟨q, rfl, by simpa [answerRequest, hq] using h⟩

/-- An answer keeps the marks: the chip's part and the sequencer's step both do. -/
theorem answerRequest_marks {d : Answer} (h : answerRequest d s = .next t) : s.SameMarks t := by
  obtain ⟨q, -, hq⟩ := answerRequest_next h
  obtain ⟨hr, hf⟩ := State.SameMarks.of_outside (respond_outside hq)
  exact ⟨by simpa using hr, by simpa using hf⟩

/-- Block reset is the reset of the block in a state that differs by the abandoned request's effect on the chip, and with no
request outstanding it does not differ at all (70_reset_and_hazards.md R260, R261). -/
theorem resetMove_only (k : Nat) (p : Byte) (s : State) :
    ∃ (m : Memory) (q : Byte), resetMove k p s = { s with chip := m, chipPtr := q }.blockReset ∧
      (s.req = none → m = s.chip ∧ q = s.chipPtr) := by
  unfold resetMove
  split
  · exact ⟨s.chip, s.chipPtr, rfl, fun _ => ⟨rfl, rfl⟩⟩
  next r hr =>
    obtain ⟨m, q, -, hm⟩ := serve_only r (.failure k p) s
    exact ⟨m, q, by rw [hm], by simp [hr]⟩

/-- Only an access of the host, made directly or by its program, sets a mark, and it does nothing else. -/
theorem perform_marks {m : Move} (h : perform m s = .next t) :
    s.SameMarks t ∨ ((∃ a, m = .access a) ∧ s.OnlyMarked t) ∨
      (m = .hostRuns ∧ State.OnlyMarked { s with hostPc := s.hostPc + 1 } t) := by
  cases m with
  | access a => exact (performAccess_marks h).imp_right fun ht => .inl ⟨⟨a, rfl⟩, ht⟩
  | hostRuns =>
    rcases hostStatement_next h with ⟨a, ha⟩ | ⟨pc, rfl⟩
    · exact (performAccess_marks ha).imp_right fun ht => .inr ⟨rfl, ht⟩
    · exact .inl ⟨rfl, rfl⟩
  | answer d => exact .inl (answerRequest_marks h)
  | tick b => cases h; exact .inl ⟨by simp, by simp⟩
  | otherMaster cells p => cases h; exact .inl ⟨rfl, rfl⟩
  | reset k p =>
    cases h
    obtain ⟨m, q, hm, -⟩ := resetMove_only k p s
    rw [hm]
    exact .inl ⟨rfl, rfl⟩

/-- Settles O44: by the act the step performs, each of which keeps both marks or is a host access that only sets one. -/
theorem stopsChangeOnlyTheirMark : Obligations.StopsChangeOnlyTheirMark := by
  intro s t h
  rcases step_cases h with ⟨-, rfl⟩ | ⟨m, rest, hm, hp⟩
  · simp
  rcases perform_marks hp with hsame | ⟨⟨a, rfl⟩, hmark⟩ | ⟨rfl, hmark⟩
  · obtain ⟨hr, hf⟩ := hsame.sticky
    exact ⟨hr, hf, fun hne => hne.elim (absurd hsame.1) (absurd hsame.2)⟩
  · obtain ⟨hr, hf⟩ := hmark.sticky
    refine ⟨hr, hf, fun _ => ⟨.inl ⟨a, by simp [hm]⟩, s.hostPc, .inl rfl, ?_⟩⟩
    simpa [hm, State.OnlyMarked] using hmark
  · obtain ⟨hr, hf⟩ := hmark.sticky
    refine ⟨hr, hf, fun _ => ⟨.inr (by simp [hm]), s.hostPc + 1, .inr ⟨rfl, by simp [hm]⟩, ?_⟩⟩
    simpa [hm, State.OnlyMarked] using hmark

/-! ### A busy sequencer -/

/-- No port access moves a busy sequencer: a command is refused, and a port holds only operands. -/
theorem performAccess_busy_sequencer {a : Access} (hb : s.fsm ≠ .idle) (h : performAccess a s = .next t) :
    t.sequencer = s.sequencer := by
  cases a with
  | write n v =>
    rcases portWrite_next h with ⟨-, i, -, hi⟩ | ⟨-, rfl⟩ | ⟨-, rfl⟩ | ⟨r, rfl⟩
    · rw [exec_busy i hb] at hi
      cases hi; rfl
    · rfl
    · rfl
    · rfl
  | read n => rcases portRead_next h with ⟨v, rfl⟩ | rfl | rfl <;> rfl

theorem hostStatement_busy_sequencer (hb : s.fsm ≠ .idle) (h : hostStatement s = .next t) :
    t.sequencer = s.sequencer := by
  rcases hostStatement_next h with ⟨a, ha⟩ | ⟨pc, rfl⟩
  · exact performAccess_busy_sequencer (s := { s with hostPc := s.hostPc + 1 }) hb ha
  · rfl

theorem State.sequencer_chipTick (b : TimeBlock) (s : State) : (s.chipTick b).sequencer = s.sequencer := by
  obtain ⟨m, -, hm⟩ := chipTick_only b s
  rw [hm]; rfl

/-- An act that goes on in a busy state leaves the sequencer alone, or is an answer or a reset (10_state.md R40). -/
theorem perform_busy_sequencer {m : Move} (hb : s.fsm ≠ .idle) (h : perform m s = .next t) :
    t.sequencer = s.sequencer ∨ (∃ d, m = .answer d) ∨ ∃ k p, m = .reset k p := by
  cases m with
  | access a => exact .inl (performAccess_busy_sequencer hb h)
  | hostRuns => exact .inl (hostStatement_busy_sequencer hb h)
  | answer d => exact .inr (.inl ⟨d, rfl⟩)
  | tick b => cases h; exact .inl (State.sequencer_chipTick b s)
  | otherMaster cells p => cases h; exact .inl rfl
  | reset k p => exact .inr (.inr ⟨k, p, rfl⟩)

/-- Equal sequencer halves agree register by register. -/
theorem State.sequencer_registers (h : t.sequencer = s.sequencer) :
    t.fsm = s.fsm ∧ t.req = s.req ∧ t.latSec = s.latSec ∧ t.chipPresence = s.chipPresence ∧ t.done = s.done ∧
      t.code = s.code ∧ t.res = s.res ∧ t.tfOut = s.tfOut ∧ t.tfv = s.tfv :=
  ⟨(congrArg State.fsm h :), (congrArg State.req h :), (congrArg State.latSec h :), (congrArg State.chipPresence h :),
    (congrArg State.done h :), (congrArg State.code h :), (congrArg State.res h :),
    (congrArg State.tfOut h :), (congrArg State.tfv h :)⟩

/-- Settles O37: by the act the step performs; of those that are neither an answer nor a reset, none writes the sequencer's
half of a busy state. -/
theorem onlyAnswersMoveBusySequencer : Obligations.OnlyAnswersMoveBusySequencer := by
  intro s t hb h
  rcases step_cases h with ⟨-, rfl⟩ | ⟨m, rest, hm, hp⟩
  · exact .inl (State.sequencer_registers rfl)
  rcases perform_busy_sequencer (s := { s with moves := rest }) hb hp with hseq | ⟨d, rfl⟩ | ⟨k, p, rfl⟩
  · exact .inl (State.sequencer_registers hseq)
  · exact .inr (.inl ⟨d, rest, hm⟩)
  · exact .inr (.inr ⟨k, p, rest, hm⟩)

/-! ### Who reads P -/

/-- A form-N command issues while IDLE (41_transactions.md R160). -/
theorem issueN_idle {k : State → State} (hi : s.fsm = .idle) : issueN s k = .next (k s.beginIssue) := by
  simp [issueN, hi]

/-- A form-A command issues while IDLE with a value in ARG. -/
theorem issueA_some {k : Word16 → State → State} {a : Word16} (hi : s.fsm = .idle) (ha : s.arg = some a) :
    issueA s k = .next (k a s.beginIssue) := by
  simp [issueA, hi, ha]

/-- The form-T command issues while IDLE with a value in TF_IN. -/
theorem issueT_some {k : TimeFields → State → State} {v : Word64} (hi : s.fsm = .idle) (hv : s.tfIn = some v) :
    issueT s k = .next (k (TimeFields.unpack v) s.beginIssue) := by
  simp [issueT, hi, hv]

/-- The state with this P. -/
def State.withPresence (p : Bool) (s : State) : State := { s with chipPresence := p }

/-- An issue whose own part does not read P does not read it. -/
theorem issueN_withPresence {k : State → State} (p : Bool) (s : State)
    (hk : ∀ u : State, k (u.withPresence p) = (k u).withPresence p) :
    issueN (s.withPresence p) k = mapNext (State.withPresence p) (issueN s k) := by
  by_cases hi : s.fsm = .idle
  · rw [issueN_idle hi, issueN_idle (s := s.withPresence p) hi]
    exact congrArg Host.Outcome.next (hk s.beginIssue)
  · rw [issueN_busy hi, issueN_busy (s := s.withPresence p) hi]; rfl

theorem issueA_withPresence {k : Word16 → State → State} (p : Bool) (s : State)
    (hk : ∀ a (u : State), k a (u.withPresence p) = (k a u).withPresence p) :
    issueA (s.withPresence p) k = mapNext (State.withPresence p) (issueA s k) := by
  by_cases hi : s.fsm = .idle
  · cases ha : s.arg with
    | none => rw [issueA_none hi ha, issueA_none (s := s.withPresence p) hi ha]; rfl
    | some a =>
      rw [issueA_some hi ha, issueA_some (s := s.withPresence p) hi ha]
      exact congrArg Host.Outcome.next (hk a s.beginIssue)
  · rw [issueA_busy hi, issueA_busy (s := s.withPresence p) hi]; rfl

theorem issueT_withPresence {k : TimeFields → State → State} (p : Bool) (s : State)
    (hk : ∀ f (u : State), k f (u.withPresence p) = (k f u).withPresence p) :
    issueT (s.withPresence p) k = mapNext (State.withPresence p) (issueT s k) := by
  by_cases hi : s.fsm = .idle
  · cases hv : s.tfIn with
    | none => rw [issueT_none hi hv, issueT_none (s := s.withPresence p) hi hv]; rfl
    | some v =>
      rw [issueT_some hi hv, issueT_some (s := s.withPresence p) hi hv]
      exact congrArg Host.Outcome.next (hk (TimeFields.unpack v) s.beginIssue)
  · rw [issueT_busy hi, issueT_busy (s := s.withPresence p) hi]; rfl

theorem exec_withPresence {i : Instr} (hi : i ≠ .chippresent) (p : Bool) (s : State) :
    exec i (s.withPresence p) = mapNext (State.withPresence p) (exec i s) := by
  cases i with
  | chippresent => exact absurd rfl hi
  | read | isrunning | getcal =>
    simp only [exec, execRead, execIsrunning, execGetcal]
    exact issueN_withPresence p s fun _ => rfl
  | write =>
    simp only [exec, execWrite]
    exact issueT_withPresence p s fun _ _ => rfl
  | setcal | hoursdec | bcdenc | bcddec | yeardec | yearenc | haltext | calenc | caldec =>
    simp only [exec, execBcdenc, execYearenc]
    exact issueA_withPresence p s fun _ _ => rfl

/-- A response to a PtrWrite or a BlockWrite overwrites P before anything else (41_transactions.md R162). -/
theorem writeResponse_withPresence (onOk : State → Result) (onErr : State → State) (r : Response) (p : Bool) (s : State) :
    writeResponse onOk onErr r (s.withPresence p) = writeResponse onOk onErr r s := by
  cases r <;> rfl

/-- A response to a BlockRead carries P through, where the state's own action does not read it. -/
theorem readResponse_withPresence {n : Nat} {onBytes : List Byte → State → State} (onErr : State → State)
    (r : Response) (p p' : Bool) (s : State)
    (hBytes : ∀ bs q (u : State), onBytes bs (u.withPresence q) = (onBytes bs u).withPresence q) :
    mapNext (State.withPresence p') (readResponse n onBytes onErr r (s.withPresence p)) =
      mapNext (State.withPresence p') (readResponse n onBytes onErr r s) := by
  cases r with
  | ok | err => rfl
  | bytes bs =>
    have hany : ∀ q, (onBytes bs (s.withPresence q)).withPresence p' = (onBytes bs s).withPresence p' := fun q => by
      rw [hBytes]; rfl
    exact congrArg Host.Outcome.next ((hany _).trans (hany _).symm)

theorem readOutcome_withPresence (bs : List Byte) (p : Bool) (u : State) :
    readOutcome bs (u.withPresence p) = (readOutcome bs u).withPresence p := by
  unfold readOutcome
  split
  · rfl
  · split <;> rfl

theorem isrunningOutcome_withPresence (bs : List Byte) (p : Bool) (u : State) :
    isrunningOutcome bs (u.withPresence p) = (isrunningOutcome bs u).withPresence p := by
  cases bs <;> rfl

theorem getcalOutcome_withPresence (bs : List Byte) (p : Bool) (u : State) :
    getcalOutcome bs (u.withPresence p) = (getcalOutcome bs u).withPresence p := by
  cases bs <;> rfl

/-- The step at a response does the same at any P, but for P itself. -/
theorem respond_withPresence (r : Response) (p p' : Bool) (s : State) :
    mapNext (State.withPresence p') (respond r (s.withPresence p)) = mapNext (State.withPresence p') (respond r s) := by
  have hfsm : (s.withPresence p).fsm = s.fsm := rfl
  simp only [respond, hfsm]
  cases s.fsm with
  | idle => rfl
  | rdPtr | wrP1 | wrP2 | irPtr | gcPtr | scWr => exact congrArg _ (writeResponse_withPresence _ _ r p s)
  | rdData => exact readResponse_withPresence _ r p p' s readOutcome_withPresence
  | irData => exact readResponse_withPresence _ r p p' s isrunningOutcome_withPresence
  | gcData => exact readResponse_withPresence _ r p p' s getcalOutcome_withPresence

/-- Settles O35: every other issue part commutes with a write of P, and a response overwrites P or carries it through. -/
theorem presenceReadByChippresentOnly : Obligations.PresenceReadByChippresentOnly :=
  ⟨fun _ s p hi => exec_withPresence hi p s, fun r s p p' => respond_withPresence r p p' s⟩

/-! ### Reset -/

/-- STATUS reads 0x00 when IDLE with DONE 0, CODE NONE and TFV 0 (10_state.md R27). -/
theorem State.status_zero (hf : s.fsm = .idle) (hd : s.done = false) (hc : s.code = .none) (ht : s.tfv = false) :
    s.status = 0x00#8 := by
  simp only [State.status, State.busy, hf, hd, hc, ht]
  decide

/-- Settles O1: a reset step is the reset of the block, in the state the abandoned request leaves the chip in. -/
theorem blockResetValues : Obligations.BlockResetValues := by
  refine ⟨fun s k p rest hm => ?_, fun s => ⟨rfl, rfl⟩, ?_⟩
  · obtain ⟨m, q, hreset, hkept⟩ := resetMove_only k p { s with moves := rest }
    refine ⟨_, (step_move hm).trans (congrArg Host.Outcome.next hreset), rfl, rfl, rfl, rfl, State.status_zero rfl rfl rfl rfl,
      rfl, rfl, rfl, rfl, rfl, rfl, rfl, rfl, rfl, rfl, fun hreq => ?_⟩
    obtain ⟨rfl, rfl⟩ := hkept hreq
    exact ⟨fun _ => rfl, rfl⟩
  · exact ⟨rfl, rfl, rfl, rfl, State.status_zero rfl rfl rfl rfl, rfl, rfl, rfl, rfl, rfl, rfl⟩

theorem reset_inv : State.reset.Inv where
  request := ⟨rfl, rfl⟩
  inFlight h := absurd rfl h
  untouched _ _ := ⟨rfl, rfl⟩
  present h := by cases h
  valid := rfl
  noFields _ := rfl
  noResult _ := rfl
  fields _ h := by cases h
  chip := rfl

/-- No data step waits at reset, so nothing is asked of the pointer. -/
theorem reset_pointerSet : State.reset.PointerSet :=
  ⟨fun h => h.elim nofun nofun, nofun⟩

/-- Settles O2: REQ, LAT_SEC and the result ports hold none and STATUS is 0x00, whatever the chip holds. -/
theorem resetMeetsInvariant : Obligations.ResetMeetsInvariant := ⟨reset_inv, reset_pointerSet⟩

/-! ### The step runs a command -/

theorem writeCmd_of_decode {c : Byte} {i : Instr} (h : decode c = .ok i) (s : State) : writeCmd c s = exec i s := by
  simp [writeCmd, h]

/-- The host's write of a decoding value to port 0 issues its command (10_state.md R26). -/
theorem performAccess_command {v : Word64} {i : Instr} (h : decode (v.setWidth 8) = .ok i) (s : State) :
    performAccess (.write 0 v) s = exec i s := writeCmd_of_decode h s

theorem hostStatement_access {a : Access} (h : s.program[s.hostPc]? = some (.access a)) :
    hostStatement s = performAccess a { s with hostPc := s.hostPc + 1 } := by
  simp [hostStatement, h]

theorem decode_of_decodeTableWord {n w : Nat} {i : Instr} (h : decodeTableWord n w = some i) :
    decode (tableWord n w) = .ok i := by
  cases hd : decode (tableWord n w) <;> simp_all [decodeTableWord, decodeBytes]

/-- Settles O7: each of the three ways leads to a write of the word to CMD. -/
theorem stepRunsCommand : Obligations.StepRunsCommand := by
  refine ⟨fun s v i rest hm hd => ?_, fun s w i hw => ?_, fun s v i rest hm hp hd => ?_⟩
  · rw [step_move hm]
    exact performAccess_command hd _
  · have hd : decode (((tableWord 8 w).setWidth 64).setWidth 8) = .ok i := by
      simpa using decode_of_decodeTableWord hw
    rw [step_move (s := s.withFetchWord 8 w) rfl]
    exact performAccess_command hd s
  · rw [step_move hm, perform, hostStatement_access (s := { s with moves := rest }) hp]
    exact performAccess_command hd _

/-! ### Ports -/

/-- The fields of STATUS at their weights (10_state.md R27). -/
theorem statusBits_toNat : ∀ (tfv : Bool) (code : BitVec 3) (done busy : Bool),
    (0#2 ++ BitVec.ofBool tfv ++ code ++ BitVec.ofBool done ++ BitVec.ofBool busy).toNat =
      busy.toNat + 2 * done.toNat + 4 * code.toNat + 32 * tfv.toNat := by
  decide

/-- Settles O29: STATUS is its five fields at their weights, and BUSY is the view of fsm. -/
theorem statusBits : Obligations.StatusBits := by
  intro s
  have hbusy : s.busy.toNat = if s.fsm = .idle then 0 else 1 := by
    by_cases h : s.fsm = .idle <;> simp [State.busy, h]
  have hdone : 2 * s.done.toNat = if s.done then 2 else 0 := by cases s.done <;> rfl
  have htfv : 32 * s.tfv.toNat = if s.tfv then 32 else 0 := by cases s.tfv <;> rfl
  rw [State.status, statusBits_toNat, hbusy, hdone, htfv]
  cases s.code <;> rfl

/-- Settles O32: neither write looks at fsm, so each has one outcome. A value too wide for ARG counts by its low 16 bits, the
model's choice (log 16). -/
theorem operandPortsAlwaysWritable : Obligations.OperandPortsAlwaysWritable :=
  ⟨fun _ _ _ hm => step_move hm, fun _ _ _ hm => step_move hm⟩

end Sys2Proof.Machine
end

section
/-! PROOF. The family of 20_memory.md: what the host reads from a port, what ticks and transport answers do to the chip's
registers, and which requests the block sends. -/

namespace Sys2Proof.Machine

variable {s t : State}

/-! ### Port reads -/

/-- Reading a readable port that holds a value puts that value in the accumulator (20_memory.md R55). -/
theorem portRead_some {n : Nat} {p : Port} {v : Word64} (hn : Port.ofNumber n = some p) (hv : portValue s p = some v) :
    portRead n s = .next { s with acc := v } := by
  cases p with
  | cmd => cases hv
  | status | arg | res | tfIn | tfOut => simp only [portRead, hn, hv]

/-- Reading a readable port that holds none sets the mark `faulted` (60_exceptions.md R228). -/
theorem portRead_none {n : Nat} {p : Port} (hn : Port.ofNumber n = some p) (hp : p.readable = true)
    (hv : portValue s p = none) : portRead n s = .next { s with faulted := true } := by
  cases p with
  | cmd => cases hp
  | status | arg | res | tfIn | tfOut => simp only [portRead, hn, hv, State.fault]

/-- Settles O31: each of the five readable ports holds a value or none, and the read has one outcome for either. -/
theorem portReadsValue : Obligations.PortReadsValue := by
  refine fun s => ⟨portRead_some (p := .status) rfl rfl, fun v h => ?_, fun v h => ?_, fun v h => ?_, fun v h => ?_,
    fun h => ?_, fun h => ?_, fun h => ?_, fun h => ?_⟩
  · exact portRead_some (p := .arg) rfl (congrArg (Option.map _) h)
  · exact portRead_some (p := .res) rfl (congrArg (Option.map _) h)
  · exact portRead_some (p := .tfIn) rfl h
  · exact portRead_some (p := .tfOut) rfl h
  · exact portRead_none (p := .arg) rfl rfl (congrArg (Option.map _) h)
  · exact portRead_none (p := .res) rfl rfl (congrArg (Option.map _) h)
  · exact portRead_none (p := .tfIn) rfl rfl h
  · exact portRead_none (p := .tfOut) rfl rfl h

/-! ### Ticks -/

@[simp] theorem TimeBlock.length_toBytes (b : TimeBlock) : b.toBytes.length = 7 := rfl

theorem State.chipTick_halted (b : TimeBlock) (h : s.chipHalted = true) : s.chipTick b = s := by
  simp [State.chipTick, h]

/-- A tick gives a running chip's time registers the drawn bytes (20_memory.md R59 item 4). -/
theorem State.chipTick_read_time (b : TimeBlock) {a : Nat} (hrun : s.chipHalted = false) (ha : a < 7)
    (hmem : a ∈ Memory.addrs s.chip) : (s.chipTick b).chip.read a = b.toBytes[a]? := by
  have h := Memory.read_writeBytes_at s.chip 0 b.toBytes a ha (by simpa using hmem)
  rw [List.getElem?_eq_getElem ha]
  simpa [State.chipTick, hrun] using h

/-- No tick reaches beyond the time registers (20_memory.md R59 item 4). -/
theorem State.chipTick_read_above (b : TimeBlock) (s : State) {a : Nat} (ha : 7 ≤ a) :
    (s.chipTick b).chip.read a = s.chip.read a := by
  unfold State.chipTick
  split
  · rfl
  · exact Memory.read_writeBytes_other _ _ _ _ (.inr (by simpa using ha))

/-- The invariant's list of registers, as a range. -/
theorem State.Inv.mem_addrs (h : s.Inv) {a : Nat} (ha : a < 8) : a ∈ Memory.addrs s.chip := by
  have haddrs : Memory.addrs s.chip = List.range 8 := h.chip
  simpa [haddrs] using ha

/-- Settles O47: a tick step is the chip's tick, which a halted chip ignores and which writes registers 0 to 6 of a running
one. -/
theorem tickMovesOnlyRunningChip : Obligations.TickMovesOnlyRunningChip := by
  intro s b rest hs hm
  refine ⟨_, step_move hm, fun hhalt => ?_, fun hrun i hi => ?_, ?_⟩
  · rw [State.chipTick_halted (s := { s with moves := rest }) b hhalt]
  · exact State.chipTick_read_time (s := { s with moves := rest }) b hrun hi (hs.mem_addrs (by omega))
  · exact State.chipTick_read_above b { s with moves := rest } le_rfl

/-! ### Reading bytes off the chip -/

theorem State.tickBefore_halted (i : ReadInstant) (h : s.chipHalted = true) : s.tickBefore i = s := by
  unfold State.tickBefore
  split
  · exact State.chipTick_halted _ h
  · rfl

theorem State.tickBefore_none {i : ReadInstant} (h : i.tick = none) (s : State) : s.tickBefore i = s := by
  simp [State.tickBefore, h]

theorem State.tickBefore_read_above (i : ReadInstant) (s : State) {a : Nat} (ha : 7 ≤ a) :
    (s.tickBefore i).chip.read a = s.chip.read a := by
  unfold State.tickBefore
  split
  · exact State.chipTick_read_above _ s ha
  · rfl

/-- A read during which the chip stands still changes nothing and gives every byte as the chip stands (20_memory.md R57).
Where the chip has no register the byte is the one the answer draws, the model's choice (log 9). -/
theorem readChip_still (a : Nat) (is : List ReadInstant) (h : ∀ i ∈ is, s.tickBefore i = s) :
    readChip a is s = (is.mapIdx fun k i => (s.chip.read (a + k)).getD i.beyond, s) := by
  induction is generalizing a with
  | nil => rfl
  | cons i is ih =>
    have hi : s.tickBefore i = s := h i (by simp)
    have his := ih (a + 1) fun j hj => h j (by simp [hj])
    simp [readChip, hi, his, List.mapIdx_cons, Nat.add_assoc, Nat.add_comm 1]

theorem readChip_halted (a : Nat) (is : List ReadInstant) (h : s.chipHalted = true) :
    readChip a is s = (is.mapIdx fun k i => (s.chip.read (a + k)).getD i.beyond, s) :=
  readChip_still a is fun i _ => State.tickBefore_halted i h

/-- Whatever ticks come between the bytes, a read leaves the registers beyond the time block. -/
theorem readChip_read_above (a : Nat) (is : List ReadInstant) (s : State) {b : Nat} (hb : 7 ≤ b) :
    (readChip a is s).2.chip.read b = s.chip.read b := by
  induction is generalizing a s with
  | nil => rfl
  | cons i is ih => exact (ih (a + 1) (s.tickBefore i)).trans (State.tickBefore_read_above i s hb)

/-- Settles O46: no tick moves a halted chip, so it stands still during the whole read. -/
theorem haltedChipReadsConsistently : Obligations.HaltedChipReadsConsistently := by
  intro s a is hhalt
  rw [readChip_halted a is hhalt]
  exact ⟨rfl, List.length_mapIdx, fun i hi => by simp [hi]⟩

/-! ### The chip's part in an answer -/

theorem serve_ptrWrite_chip (dev reg : Byte) (d : Answer) (s : State) :
    (serve (.ptrWrite dev reg) d s).2.chip = s.chip := by
  unfold serve
  split
  · cases d with
    | success is p => rfl
    | failure k p => simp only [serveChip]; split <;> rfl
  · rfl

/-- The bytes of a BlockWrite that an answer lands: all of them, or the first few as drawn (20_memory.md R59 item 6). -/
def Answer.landed : Answer → List Byte → List Byte
  | .success _ _, bs => bs
  | .failure k _, bs => bs.take k

theorem Answer.length_landed_le (d : Answer) (bs : List Byte) : (d.landed bs).length ≤ bs.length := by
  cases d with
  | success is p => exact le_rfl
  | failure k p => exact List.length_take_le' k bs

theorem serve_blockWrite_chip (start : Byte) (bs : List Byte) (d : Answer) (s : State) :
    (serve (.blockWrite Config.devAddr start bs) d s).2.chip = s.chip.writeBytes start.toNat (d.landed bs) := by
  cases d <;> rfl

/-- A BlockWrite leaves every register outside its bytes. -/
theorem serve_blockWrite_read_outside {dev start : Byte} {bs : List Byte} (d : Answer) (s : State) {a : Nat}
    (ha : a < start.toNat ∨ start.toNat + bs.length ≤ a) :
    (serve (.blockWrite dev start bs) d s).2.chip.read a = s.chip.read a := by
  by_cases hdev : dev = Config.devAddr
  · have hle := d.length_landed_le bs
    rw [hdev, serve_blockWrite_chip, Memory.read_writeBytes_other _ _ _ _ (by omega)]
  · simp [serve, Request.dev, hdev]

/-- A BlockRead leaves the registers as its bytes' ticks do. -/
theorem serve_blockRead_chip (dev : Byte) (n : Nat) (d : Answer) (s : State) :
    (serve (.blockRead dev n) d s).2.chip = s.chip ∨
      ∃ is p, d = .success is p ∧ (serve (.blockRead dev n) d s).2.chip = (readChip s.chipPtr.toNat is s).2.chip := by
  unfold serve
  split
  · cases d with
    | success is p => exact .inr ⟨is, p, rfl, rfl⟩
    | failure k p => exact .inl rfl
  · exact .inl rfl

/-- An answer leaves the chip as its own part in the request does; the sequencer's step does not touch it. -/
theorem answerRequest_chip {d : Answer} {q : Request} (hq : s.req = some q) (h : answerRequest d s = .next t) :
    t.chip = (serve q d s).2.chip := by
  obtain ⟨q', hq', hr⟩ := answerRequest_next h
  obtain rfl : q = q' := by simpa [hq] using hq'
  exact (congrArg State.chip (respond_outside hr) :)

/-- Settles O27: by the kind of the outstanding request, whose own part is the whole effect on the chip. -/
theorem answerChipFrame : Obligations.AnswerChipFrame := by
  intro d s t h
  refine ⟨fun dev reg hq a => ?_, fun dev start bs hq a ha => ?_, fun dev n hq hstill a => ?_, fun dev n hq a ha => ?_⟩
  · rw [answerRequest_chip hq h, serve_ptrWrite_chip]
  · rw [answerRequest_chip hq h, serve_blockWrite_read_outside d s ha]
  · rw [answerRequest_chip hq h]
    obtain hkept | ⟨is, p, rfl, hread⟩ := serve_blockRead_chip dev n d s
    · rw [hkept]
    · have hticks : ∀ i ∈ is, s.tickBefore i = s := fun i hi => by
        rcases hstill with hhalt | hnone
        · exact State.tickBefore_halted i hhalt
        · exact State.tickBefore_none (hnone is p rfl i hi) s
      rw [hread, readChip_still _ is hticks]
  · rw [answerRequest_chip hq h]
    obtain hkept | ⟨is, p, -, hread⟩ := serve_blockRead_chip dev n d s
    · rw [hkept]
    · rw [hread, readChip_read_above _ is s ha]

/-! ### The requests the block sends -/

/-- A request within 20_memory.md R51: it names the chip, and what it writes or points at lies in registers 0x00 to 0x07. -/
def Request.OnChip : Request → Prop
  | .ptrWrite dev reg => dev = 0x68#8 ∧ reg.toNat ≤ 7
  | .blockWrite dev start bs => dev = 0x68#8 ∧ bs ≠ [] ∧ start.toNat + bs.length ≤ 8
  | .blockRead dev n => dev = 0x68#8 ∧ (n = 1 ∨ n = 7)

/-- Every request that fits a sequencer state is within R51. -/
theorem State.requestFits.onChip (h : s.requestFits) {q : Request} (hq : s.req = some q) : q.OnChip := by
  cases hf : s.fsm <;> simp only [State.requestFits, hf, hq] at h
  case idle => cases h.1
  case rdPtr | irPtr | gcPtr | rdData | irData | gcData =>
    obtain ⟨⟨⟩, -⟩ := h
    exact ⟨rfl, by decide⟩
  case wrP1 =>
    obtain ⟨e, fields, hlen, ⟨⟩, -⟩ := h
    exact ⟨rfl, List.cons_ne_nil _ _, by simp [hlen]⟩
  case wrP2 =>
    obtain ⟨e, ⟨⟩, -⟩ := h
    exact ⟨rfl, List.cons_ne_nil _ _, by simp⟩
  case scWr =>
    obtain ⟨c, -, ⟨⟩, -⟩ := h
    exact ⟨rfl, List.cons_ne_nil _ _, by simp⟩

/-! ### Every admitted response goes on -/

theorem writeResponse_goesOn {onOk : State → Result} {onErr : State → State} {r : Response} (hr : r = .ok ∨ r = .err)
    (hOk : ∃ t, onOk (s.presence 0 .ok) = .next t) : ∃ t, writeResponse onOk onErr r s = .next t := by
  obtain rfl | rfl := hr
  · exact hOk
  · exact ⟨_, rfl⟩

theorem readResponse_goesOn {n : Nat} {onBytes : List Byte → State → State} {onErr : State → State} {r : Response}
    (hr : r ≠ .ok) : ∃ t, readResponse n onBytes onErr r s = .next t := by
  cases r with
  | ok => exact absurd rfl hr
  | err => exact ⟨_, rfl⟩
  | bytes bs => exact ⟨_, rfl⟩

theorem Request.ptrWrite_admits {dev reg : Byte} {r : Response} (h : (Request.ptrWrite dev reg).admits r = true) :
    r = .ok ∨ r = .err := by
  cases r <;> simp_all [Request.admits]

theorem Request.blockWrite_admits {dev start : Byte} {bs : List Byte} {r : Response}
    (h : (Request.blockWrite dev start bs).admits r = true) : r = .ok ∨ r = .err := by
  cases r <;> simp_all [Request.admits]

theorem Request.blockRead_admits {dev : Byte} {n : Nat} {r : Response} (h : (Request.blockRead dev n).admits r = true) :
    r ≠ .ok := by
  rintro rfl
  simp [Request.admits] at h

/-- The sequencer has a step for every response its request admits; phase 2 of WRITE finds its latch full
(41_transactions.md R171, R172). -/
theorem respond_admitted (hs : s.requestFits) {q : Request} (hq : s.req = some q) {r : Response} (hr : q.admits r = true) :
    ∃ t, respond r s = .next t := by
  cases hf : s.fsm <;> simp only [State.requestFits, hf, hq] at hs <;> rw [respond, hf]
  case idle => cases hs.1
  case rdPtr | irPtr | gcPtr =>
    obtain ⟨⟨⟩, -⟩ := hs
    exact writeResponse_goesOn (Request.ptrWrite_admits hr) ⟨_, rfl⟩
  case rdData | irData | gcData =>
    obtain ⟨⟨⟩, -⟩ := hs
    exact readResponse_goesOn (Request.blockRead_admits hr)
  case wrP1 =>
    obtain ⟨e, fields, -, ⟨⟩, hlat⟩ := hs
    exact writeResponse_goesOn (Request.blockWrite_admits hr) ⟨_, by rw [State.presence_latSec, hlat]⟩
  case wrP2 =>
    obtain ⟨e, ⟨⟩, -⟩ := hs
    exact writeResponse_goesOn (Request.blockWrite_admits hr) ⟨_, rfl⟩
  case scWr =>
    obtain ⟨c, -, ⟨⟩, -⟩ := hs
    exact writeResponse_goesOn (Request.blockWrite_admits hr) ⟨_, rfl⟩

/-- Equal sequencer halves have the same requests fitting. -/
theorem State.requestFits.of_sequencer (hs : s.requestFits) (h : t.sequencer = s.sequencer) : t.requestFits := by
  obtain ⟨hf, hq, hl, -⟩ := State.sequencer_registers h
  simpa only [State.requestFits, hf, hq, hl] using hs

theorem State.sequencer_serve (q : Request) (d : Answer) (s : State) : (serve q d s).2.sequencer = s.sequencer := by
  obtain ⟨m, p, -, h⟩ := serve_only q d s
  rw [h]; rfl

/-- Every answer to an outstanding request goes on. -/
theorem answerRequest_goesOn (hs : s.requestFits) {q : Request} (hq : s.req = some q) (d : Answer) :
    ∃ t, answerRequest d s = .next t := by
  have hserved : (serve q d s).2.requestFits := hs.of_sequencer (State.sequencer_serve q d s)
  obtain ⟨t, ht⟩ := respond_admitted hserved (by simpa using hq) (serve_admitted q d s)
  exact ⟨t, by simpa [answerRequest, hq] using ht⟩

/-- The bytes an answer lands are there in the state it leaves. -/
theorem answerRequest_landed (hs : s.Inv) {start : Byte} {bs : List Byte}
    (hq : s.req = some (.blockWrite 0x68#8 start bs)) (d : Answer) :
    ∃ t, answerRequest d s = .next t ∧ t.chip = s.chip.writeBytes start.toNat (d.landed bs) := by
  obtain ⟨t, ht⟩ := answerRequest_goesOn hs.request hq d
  exact ⟨t, ht, (answerRequest_chip hq ht).trans (serve_blockWrite_chip start bs d s)⟩

/-- Settles O28: the answer goes on and lands all bytes or the first k, and every byte of the request has a register. -/
theorem blockWriteLandsOnChip : Obligations.BlockWriteLandsOnChip := by
  intro s start bs p i hs hq hi
  obtain ⟨-, -, hend⟩ := hs.request.onChip hq
  have hmem : start.toNat + i ∈ Memory.addrs s.chip := hs.mem_addrs (by omega)
  refine ⟨?_, fun k => ?_⟩
  · obtain ⟨t, ht, hchip⟩ := answerRequest_landed hs hq (.success [] p)
    exact ⟨t, ht, by rw [hchip]; exact Memory.read_writeBytes_at _ _ bs i hi hmem⟩
  · obtain ⟨t, ht, hchip⟩ := answerRequest_landed hs hq (.failure k p)
    refine ⟨t, ht, fun hik => ?_, fun hki => ?_⟩ <;> rw [hchip, Answer.landed]
    · have htake : i < (bs.take k).length := by rw [List.length_take]; omega
      rw [Memory.read_writeBytes_at _ _ _ i htake hmem, List.getElem_take]
    · exact Memory.read_writeBytes_other _ _ _ _ (.inr (by rw [List.length_take]; omega))

/-! ### Every step keeps the requests fitting -/

/-- The request and the latch fit the sequencer, and no data step waits: what an issue, a finish and a reset leave. -/
structure State.Opening (s : State) : Prop where
  fits : s.requestFits
  noData : s.fsm.afterFirstOk = false

/-- No request is outstanding and the latch is empty. -/
def State.AtRest (s : State) : Prop := s.fsm = .idle ∧ s.req = none ∧ s.latSec = none

theorem State.AtRest.opening (h : s.AtRest) : s.Opening := by
  obtain ⟨hf, hq, hl⟩ := h
  exact ⟨by simp [State.requestFits, hf, hq, hl], by simp [hf, Fsm.afterFirstOk]⟩

theorem State.requestFits.atRest (hs : s.requestFits) (hi : s.fsm = .idle) : s.AtRest := by
  simpa [State.requestFits, State.AtRest, hi] using hs

theorem State.Opening.pointerSet (h : s.Opening) : s.PointerSet := by
  have hno := h.noData
  constructor
  · rintro (hf | hf) <;> rw [hf] at hno <;> cases hno
  · intro hf
    rw [hf] at hno
    cases hno

/-- The calibration byte of SETCAL leaves bits 7:6 clear (40_codec.md R127). -/
theorem calEncode_operandI8_lt (a : Word16) : (calEncode (operandI8 a)).toNat < 64 := by
  rw [operandI8_eq_toInt]
  exact calEncode_lt _

/-- An issue while IDLE opens if its own part does so from every state at rest. -/
theorem issueN_opening {k : State → State} (hs : s.AtRest) (h : issueN s k = .next t)
    (hk : ∀ u : State, u.AtRest → (k u).Opening) : t.Opening := by
  rcases issueN_next.1 h with ⟨-, rfl⟩ | ⟨hb, -⟩
  · exact hk _ hs
  · exact absurd hs.1 hb

theorem issueA_opening {k : Word16 → State → State} (hs : s.AtRest) (h : issueA s k = .next t)
    (hk : ∀ a (u : State), u.AtRest → (k a u).Opening) : t.Opening := by
  rcases issueA_next.1 h with ⟨-, a, -, rfl⟩ | ⟨hb, -⟩ | ⟨-, -, rfl⟩
  · exact hk a _ hs
  · exact absurd hs.1 hb
  · exact State.AtRest.opening hs

theorem issueT_opening {k : TimeFields → State → State} (hs : s.AtRest) (h : issueT s k = .next t)
    (hk : ∀ f (u : State), u.AtRest → (k f u).Opening) : t.Opening := by
  rcases issueT_next.1 h with ⟨-, v, -, rfl⟩ | ⟨hb, -⟩ | ⟨-, -, rfl⟩
  · exact hk _ _ hs
  · exact absurd hs.1 hb
  · exact State.AtRest.opening hs

/-- A command issued while IDLE sends the first request of its transaction, or none (41_transactions.md R165 to R170). -/
theorem exec_opening {i : Instr} (hs : s.AtRest) (h : exec i s = .next t) : t.Opening := by
  cases i with
  | read | isrunning | getcal =>
    simp only [exec, execRead, execIsrunning, execGetcal] at h
    exact issueN_opening hs h fun _ ⟨_, _, hl⟩ => ⟨⟨rfl, hl⟩, rfl⟩
  | chippresent => exact issueN_opening hs h fun _ hu => State.AtRest.opening hu
  | write =>
    simp only [exec, execWrite] at h
    exact issueT_opening hs h fun _ _ _ => ⟨⟨_, _, rfl, rfl, rfl⟩, rfl⟩
  | setcal =>
    simp only [exec, execSetcal] at h
    exact issueA_opening hs h fun a _ ⟨_, _, hl⟩ => ⟨⟨_, calEncode_operandI8_lt a, rfl, hl⟩, rfl⟩
  | hoursdec | bcdenc | bcddec | yeardec | yearenc | haltext | calenc | caldec =>
    simp only [exec, execBcdenc, execYearenc] at h
    exact issueA_opening hs h fun _ _ hu => State.AtRest.opening hu

/-- The sequencer's half and the chip's pointer as they were. -/
def State.SameBus (s t : State) : Prop := t.sequencer = s.sequencer ∧ t.chipPtr = s.chipPtr

theorem State.SameBus.pointerSet (h : s.SameBus t) (hs : s.PointerSet) : t.PointerSet := by
  obtain ⟨hseq, hptr⟩ := h
  obtain ⟨hf, -⟩ := State.sequencer_registers hseq
  simpa only [State.PointerSet, hf, hptr] using hs

/-- A command opens a transaction, or is refused because the block is busy. -/
theorem exec_bus (hs : s.requestFits) {i : Instr} (h : exec i s = .next t) : t.Opening ∨ s.SameBus t := by
  by_cases hi : s.fsm = .idle
  · exact .inl (exec_opening (hs.atRest hi) h)
  · rw [exec_busy i hi] at h
    cases h
    exact .inr ⟨rfl, rfl⟩

theorem performAccess_bus (hs : s.requestFits) {a : Access} (h : performAccess a s = .next t) :
    t.Opening ∨ s.SameBus t := by
  cases a with
  | write n v =>
    rcases portWrite_next h with ⟨-, i, -, hi⟩ | ⟨-, rfl⟩ | ⟨-, rfl⟩ | ⟨r, rfl⟩
    · exact exec_bus hs hi
    · exact .inr ⟨rfl, rfl⟩
    · exact .inr ⟨rfl, rfl⟩
    · exact .inr ⟨rfl, rfl⟩
  | read n => rcases portRead_next h with ⟨v, rfl⟩ | rfl | rfl <;> exact .inr ⟨rfl, rfl⟩

theorem hostStatement_bus (hs : s.requestFits) (h : hostStatement s = .next t) : t.Opening ∨ s.SameBus t := by
  rcases hostStatement_next h with ⟨a, ha⟩ | ⟨pc, rfl⟩
  · exact performAccess_bus (s := { s with hostPc := s.hostPc + 1 }) hs ha
  · exact .inr ⟨rfl, rfl⟩

/-- What every response but a first `Ok` leaves: the command finished. -/
def State.Finished (t : State) : Prop := ∃ (u : State) (c : Code), t = u.finish c

theorem readOutcome_finished (bs : List Byte) (u : State) : (readOutcome bs u).Finished := by
  unfold readOutcome
  split
  · exact ⟨_, _, rfl⟩
  · split <;> exact ⟨_, _, rfl⟩

theorem isrunningOutcome_finished (bs : List Byte) (u : State) : (isrunningOutcome bs u).Finished := by
  cases bs <;> exact ⟨_, _, rfl⟩

theorem getcalOutcome_finished (bs : List Byte) (u : State) : (getcalOutcome bs u).Finished := by
  cases bs <;> exact ⟨_, _, rfl⟩

theorem State.Finished.opening (h : t.Finished) : t.Opening := by
  obtain ⟨u, c, rfl⟩ := h
  exact State.AtRest.opening ⟨rfl, rfl, rfl⟩

/-- The data step that follows an `Ok` in this sequencer state, with LAT_SEC as the byte of phase 2; none where the `Ok`
ends the command (41_transactions.md R171). -/
def State.dataStep (s : State) : Option (Fsm × Request) :=
  match s.fsm with
  | .rdPtr => some (.rdData, .blockRead Config.devAddr Config.timeLen)
  | .irPtr => some (.irData, .blockRead Config.devAddr 1)
  | .gcPtr => some (.gcData, .blockRead Config.devAddr 1)
  | .wrP1 => s.latSec.map fun sec2 => (.wrP2, .blockWrite Config.devAddr Config.timeBase [sec2])
  | .idle | .rdData | .wrP2 | .irData | .gcData | .scWr => none

theorem writeResponse_finished {onOk : State → Result} {onErr : State → State} {r : Response}
    (h : writeResponse onOk onErr r s = .next t) (hErr : ∀ u, (onErr u).Finished) :
    t.Finished ∨ r = .ok ∧ onOk (s.presence 0 .ok) = .next t := by
  rcases writeResponse_next.1 h with hok | ⟨-, rfl⟩
  · exact .inr hok
  · exact .inl (hErr _)

theorem readResponse_finished {n : Nat} {onBytes : List Byte → State → State} {onErr : State → State} {r : Response}
    (h : readResponse n onBytes onErr r s = .next t) (hBytes : ∀ bs u, (onBytes bs u).Finished)
    (hErr : ∀ u, (onErr u).Finished) : t.Finished := by
  rcases readResponse_next.1 h with ⟨-, rfl⟩ | ⟨bs, -, rfl⟩
  · exact hErr _
  · exact hBytes _ _

/-- A response finishes the command, or is the first `Ok` of a command with a data step, which is sent
(41_transactions.md R171). -/
theorem respond_next {r : Response} (h : respond r s = .next t) :
    t.Finished ∨ r = .ok ∧ ∃ f q, s.dataStep = some (f, q) ∧ t = (s.presence 0 .ok).send f q := by
  cases hf : s.fsm <;> rw [respond, hf] at h
  case idle => cases h
  case rdPtr | irPtr | gcPtr =>
    refine (writeResponse_finished h fun _ => ⟨_, _, rfl⟩).imp_right fun ⟨hr, hok⟩ => ⟨hr, ?_⟩
    cases hok
    exact ⟨_, _, by simp only [State.dataStep, hf], rfl⟩
  case wrP1 =>
    refine (writeResponse_finished h fun _ => ⟨_, _, rfl⟩).imp_right fun ⟨hr, hok⟩ => ⟨hr, ?_⟩
    cases hl : s.latSec <;> simp only [State.presence_latSec, hl] at hok <;> cases hok
    exact ⟨_, _, by simp only [State.dataStep, hf, hl, Option.map_some], rfl⟩
  case wrP2 | scWr =>
    rcases writeResponse_finished h fun _ => ⟨_, _, rfl⟩ with hfin | ⟨-, hok⟩
    · exact .inl hfin
    · cases hok; exact .inl ⟨_, _, rfl⟩
  case rdData => exact .inl (readResponse_finished h readOutcome_finished fun _ => ⟨_, _, rfl⟩)
  case irData => exact .inl (readResponse_finished h isrunningOutcome_finished fun _ => ⟨_, _, rfl⟩)
  case gcData => exact .inl (readResponse_finished h getcalOutcome_finished fun _ => ⟨_, _, rfl⟩)

/-- The data step's request fits its sequencer state: phase 2 sends the latched byte. -/
theorem State.requestFits.dataStep (hs : s.requestFits) {f : Fsm} {q : Request} (hd : s.dataStep = some (f, q))
    (u : State) (hu : u.latSec = s.latSec) : (u.send f q).requestFits := by
  cases hf : s.fsm <;> simp only [State.requestFits, hf] at hs <;> simp only [State.dataStep, hf] at hd
  case idle | rdData | wrP2 | irData | gcData | scWr => cases hd
  case rdPtr | irPtr | gcPtr =>
    cases hd
    exact ⟨rfl, hu.trans hs.2⟩
  case wrP1 =>
    obtain ⟨e, fields, -, -, hl⟩ := hs
    rw [hl] at hd
    cases hd
    exact ⟨e, rfl, hu.trans hl⟩

/-- The sequencer's step keeps the requests fitting. -/
theorem respond_requestFits (hs : s.requestFits) {r : Response} (h : respond r s = .next t) : t.requestFits := by
  rcases respond_next h with hfin | ⟨-, f, q, hd, rfl⟩
  · exact hfin.opening.fits
  · exact hs.dataStep hd _ rfl

theorem resetMove_opening (k : Nat) (p : Byte) (s : State) : (resetMove k p s).Opening := by
  obtain ⟨m, q, hm, -⟩ := resetMove_only k p s
  rw [hm]
  exact State.AtRest.opening ⟨rfl, rfl, rfl⟩

theorem State.sameBus_chipTick (b : TimeBlock) (s : State) : s.SameBus (s.chipTick b) :=
  ⟨State.sequencer_chipTick b s, State.chipTick_chipPtr s b⟩

/-- An act opens, or leaves the sequencer and the pointer, or is an answer or another bus master's. -/
theorem perform_bus (hs : s.requestFits) {m : Move} (h : perform m s = .next t) :
    t.Opening ∨ s.SameBus t ∨ (∃ d, answerRequest d s = .next t) ∨
      ∃ cells p, m = .otherMaster cells p ∧ t = s.otherAccess cells p := by
  cases m with
  | access a => exact (performAccess_bus hs h).imp_right .inl
  | hostRuns => exact (hostStatement_bus hs h).imp_right .inl
  | answer d => exact .inr (.inr (.inl ⟨d, h⟩))
  | tick b => cases h; exact .inr (.inl (State.sameBus_chipTick b s))
  | otherMaster cells p => cases h; exact .inr (.inr (.inr ⟨cells, p, rfl, rfl⟩))
  | reset k p => cases h; exact .inl (resetMove_opening k p s)

theorem answerRequest_requestFits (hs : s.requestFits) {d : Answer} (h : answerRequest d s = .next t) : t.requestFits := by
  obtain ⟨q, -, hr⟩ := answerRequest_next h
  exact respond_requestFits (hs.of_sequencer (State.sequencer_serve q d s)) hr

/-- Every step keeps REQ and LAT_SEC those of the sequencer state. -/
theorem step_requestFits (hs : s.requestFits) (h : step s = .next t) : t.requestFits := by
  rcases step_cases h with ⟨-, rfl⟩ | ⟨m, rest, -, hp⟩
  · exact hs
  rcases perform_bus (s := { s with moves := rest }) hs hp with hopen | ⟨hseq, -⟩ | ⟨d, hd⟩ | ⟨cells, p, -, rfl⟩
  · exact hopen.fits
  · exact hs.of_sequencer hseq
  · exact answerRequest_requestFits (s := { s with moves := rest }) hs hd
  · exact hs

/-! ### Where the pointer stands in a data step -/

theorem State.dataStep_serve (q : Request) (d : Answer) (s : State) : (serve q d s).2.dataStep = s.dataStep := by
  simp only [State.dataStep, serve_fsm, serve_latSec]

/-- A data step of a read follows the `Ok` to the PtrWrite of the same command, which set the pointer (20_memory.md R59
item 3). -/
theorem answerRequest_pointerSet (hs : s.requestFits) {d : Answer} (h : answerRequest d s = .next t) : t.PointerSet := by
  obtain ⟨q, hq, hr⟩ := answerRequest_next h
  rcases respond_next hr with hfin | ⟨hok, f, q', hd, rfl⟩
  · exact hfin.opening.pointerSet
  rw [State.dataStep_serve] at hd
  cases hf : s.fsm <;> simp only [State.requestFits, hf, hq] at hs <;> simp only [State.dataStep, hf] at hd
  case idle | rdData | wrP2 | irData | gcData | scWr => cases hd
  case rdPtr | irPtr =>
    obtain ⟨⟨⟩, -⟩ := hs
    cases hd
    exact ⟨fun _ => serve_ptrWrite_ok hok, nofun⟩
  case gcPtr =>
    obtain ⟨⟨⟩, -⟩ := hs
    cases hd
    exact ⟨fun hdata => hdata.elim nofun nofun, fun _ => serve_ptrWrite_ok hok⟩
  case wrP1 =>
    obtain ⟨e, fields, -, -, hl⟩ := hs
    rw [hl] at hd
    cases hd
    exact ⟨fun hdata => hdata.elim nofun nofun, nofun⟩

/-- Every step but another bus master's keeps the pointer where a data step reads. -/
theorem step_pointerSet (hs : s.requestFits) (hptr : s.PointerSet) (hno : ¬ s.otherMasterNext) (h : step s = .next t) :
    t.PointerSet := by
  rcases step_cases h with ⟨-, rfl⟩ | ⟨m, rest, hm, hp⟩
  · exact hptr
  rcases perform_bus (s := { s with moves := rest }) hs hp with hopen | hsame | ⟨d, hd⟩ | ⟨cells, p, rfl, -⟩
  · exact hopen.pointerSet
  · exact hsame.pointerSet hptr
  · exact answerRequest_pointerSet (s := { s with moves := rest }) hs hd
  · exact absurd ⟨cells, p, by simp [hm]⟩ hno

/-- With the pointer set, the bytes of a BlockRead are those of registers 0x00 to 0x07. -/
theorem State.PointerSet.read_ends (hptr : s.PointerSet) (hs : s.requestFits) {dev : Byte} {n : Nat}
    (hq : s.req = some (.blockRead dev n)) : s.chipPtr.toNat + n ≤ 8 := by
  obtain ⟨htime, hcal⟩ := hptr
  cases hf : s.fsm <;> simp only [State.requestFits, hf, hq] at hs
  case idle | rdPtr | irPtr | gcPtr => cases hs.1
  case wrP1 => obtain ⟨e, fields, -, ⟨⟩, -⟩ := hs
  case wrP2 => obtain ⟨e, ⟨⟩, -⟩ := hs
  case scWr => obtain ⟨c, -, ⟨⟩, -⟩ := hs
  case rdData | irData =>
    obtain ⟨⟨⟩, -⟩ := hs
    rw [htime (by simp [hf])]
    decide
  case gcData =>
    obtain ⟨⟨⟩, -⟩ := hs
    rw [hcal hf]
    decide

theorem Request.OnChip.dev_eq {q : Request} (h : q.OnChip) : q.dev = 0x68#8 := by
  cases q <;> exact h.1

/-- Settles O41: a step keeps the requests fitting and, unless it is another bus master's, the pointer set; what fits is
within R51. -/
theorem requestsStayOnChip : Obligations.RequestsStayOnChip := by
  intro s t q hs h hq
  have hfits : t.requestFits := step_requestFits hs.request h
  have hon : q.OnChip := hfits.onChip hq
  refine ⟨hon.dev_eq, ?_, ?_, ?_, fun hptr hno => ?_⟩
  · rintro dev reg rfl
    exact hon.2
  · rintro dev start bs rfl
    exact hon.2
  · rintro dev n rfl
    exact hon.2
  · have hset : t.PointerSet := step_pointerSet hs.request hptr hno h
    exact ⟨fun dev n hr => hset.read_ends hfits (by rw [hq, hr]), hset⟩

end Sys2Proof.Machine
end

section
/-! PROOF. The family of 30_encoding.md: decoder and encoder, the TimeFields packing, the values of STATUS, the accesses that are
refused, and the host's branch. -/

namespace Sys2Proof

/-! ### Decoder and encoder -/

/-- The opcode map read both ways: an opcode names a command exactly if it is that command's (30_encoding.md R82). -/
theorem decodeOp_eq_ok_iff (op : BitVec 4) (i : Instr) : decodeOp op.toNat = .ok i ↔ op = i.opcode := by
  revert op
  cases i <;> decide

theorem CmdWord.mbzClear_iff (c : Byte) : CmdWord.mbzClear c = true ↔ c.extractLsb' 4 4 = 0#4 := beq_iff_eq

/-- A word is `{0b0000, OP}` exactly if its two halves are (30_encoding.md R82). -/
theorem eq_encode_iff (c : Byte) (i : Instr) :
    c = encode i ↔ c.extractLsb' 4 4 = 0#4 ∧ c.extractLsb' 0 4 = i.opcode := by
  constructor
  · rintro rfl
    exact ⟨BitVec.extractLsb'_append_eq_left, BitVec.extractLsb'_append_eq_right⟩
  · rintro ⟨hmbz, hop⟩
    have hsplit : c.extractLsb' 4 4 ++ c.extractLsb' 0 4 = c := BitVec.extractLsb'_append_extractLsb'
    rw [← hsplit, hmbz, hop, encode]

theorem decode_eq_ok_iff (c : Byte) (i : Instr) : decode c = .ok i ↔ c = encode i := by
  rw [eq_encode_iff, decode, ← CmdWord.mbzClear_iff, ← decodeOp_eq_ok_iff]
  by_cases hmbz : CmdWord.mbzClear c = true <;> simp [hmbz]

theorem decode_encode (i : Instr) : decode (encode i) = .ok i := (decode_eq_ok_iff _ i).2 rfl

/-! ### The TimeFields packing -/

/-- Packing a word's fields puts its bits back together (30_encoding.md R87). -/
theorem TimeFields.pack_unpack (v : Word64) : (TimeFields.unpack v).pack = v := by
  simp only [TimeFields.pack, TimeFields.unpack, BitVec.extractLsb'_append_extractLsb'_eq_extractLsb']
  exact BitVec.extractLsb'_eq_self

/-- In an append the low word keeps its weight and the high word stands above it. -/
theorem toNat_append_eq_add {m n : Nat} (hi : BitVec m) (lo : BitVec n) :
    (hi ++ lo).toNat = lo.toNat + 2 ^ n * hi.toNat := by
  rw [BitVec.toNat_append, ← Nat.shiftLeft_add_eq_or_of_lt lo.isLt, Nat.shiftLeft_eq]
  ring

/-- Each field of the packed word at its weight (30_encoding.md R87). -/
theorem TimeFields.pack_toNat (f : TimeFields) :
    f.pack.toNat = f.second.toNat + 2 ^ 8 * f.minute.toNat + 2 ^ 16 * f.hour.toNat + 2 ^ 24 * f.weekday.toNat +
      2 ^ 32 * f.day.toNat + 2 ^ 40 * f.month.toNat + 2 ^ 48 * f.year.toNat := by
  simp only [TimeFields.pack, toNat_append_eq_add]
  omega

/-- Settles O5: the opcode map is read both ways and MBZ is the rest of the word; the packing is one append of fields. -/
theorem decodeInvertsEncode : Obligations.DecodeInvertsEncode :=
  ⟨decode_eq_ok_iff, TimeFields.unpack_pack, TimeFields.pack_unpack, TimeFields.pack_toNat⟩

/-- Settles O4: each of the words is its command's. -/
theorem commandWordsDecode : Obligations.CommandWordsDecode :=
  ⟨decode_encode .read, decode_encode .write, decode_encode .isrunning, decode_encode .getcal, decode_encode .setcal,
    decode_encode .chippresent, decode_encode .hoursdec, decode_encode .bcdenc, decode_encode .bcddec,
    decode_encode .yeardec, decode_encode .yearenc, decode_encode .haltext, decode_encode .calenc, decode_encode .caldec⟩

end Sys2Proof

namespace Sys2Proof.Machine

open Sys2Proof.Claims

variable {s : State}

/-! ### The values of STATUS -/

theorem State.Inv.tfv_false (hs : s.Inv) (h : s.tfOut = none) : s.tfv = false := by
  rw [hs.valid, h, Option.isSome_none]

/-- While a command is in flight STATUS is BUSY, with TFV as the only other bit (30_encoding.md R94). -/
theorem State.Inv.status_busy (hs : s.Inv) (hb : s.fsm ≠ .idle) : s.status = 0#2 ++ BitVec.ofBool s.tfv ++ 0x01#5 := by
  obtain ⟨hdone, hcode⟩ := hs.inFlight hb
  have hbusy : s.busy = true := decide_eq_true hb
  simp only [State.status, hdone, hcode, hbusy]
  cases s.tfv <;> rfl

/-- STATUS while IDLE with DONE 1: TFV and CODE are free. -/
theorem State.status_done (hi : s.fsm = .idle) (hd : s.done = true) :
    s.status = 0#2 ++ BitVec.ofBool s.tfv ++ s.code.number ++ 0b10#2 := by
  have hbusy : s.busy = false := decide_eq_false (not_not.2 hi)
  simp only [State.status, hd, hbusy]
  cases s.tfv <;> cases s.code <;> rfl

/-- Settles O30: in flight DONE and CODE are clear, and READ's failures, like READ in flight, leave TFV clear. -/
theorem statusValues : Obligations.StatusValues := by
  intro s hs
  refine ⟨fun hb => ?_, fun hi hd => ?_, fun hi hd => ?_⟩
  · rw [hs.status_busy hb]
    cases ht : s.tfv with
    | false => exact .inl rfl
    | true =>
      have hread : ¬ (s.fsm = .rdPtr ∨ s.fsm = .rdData) := fun h => by
        have hclear : s.tfv = false := hs.tfv_false (hs.noFields (h.elim .inl fun hdata => .inr (.inl hdata)))
        rw [ht] at hclear
        cases hclear
      exact .inr ⟨rfl, fun h => hread (.inl h), fun h => hread (.inr h)⟩
  · obtain ⟨hcode, htfv⟩ := hs.untouched hi hd
    exact State.status_zero hi hd hcode htfv
  · rw [State.status_done hi hd]
    cases hc : s.code with
    | none | ok | busErr => cases s.tfv <;> decide
    | shortRead | clockHalted =>
      rw [hs.tfv_false (hs.noFields (by simp [hc]))]
      decide

/-! ### Refused accesses -/

/-- Command words are the words 1 to 14 (30_encoding.md R82). -/
theorem encode_toNat_range (i : Instr) : 1 ≤ (encode i).toNat ∧ (encode i).toNat ≤ 14 := by
  cases i <;> decide

/-- A word with MBZ not zero, or with opcode 0 or 15, is no command's (30_encoding.md R83). -/
theorem decode_reserved {c : Byte} (h : c.toNat / 16 ≠ 0 ∨ c.toNat % 16 = 0 ∨ c.toNat % 16 = 15) :
    ∃ e, decode c = .error e := by
  cases hd : decode c with
  | error e => exact ⟨e, rfl⟩
  | ok i =>
    obtain rfl := (decode_eq_ok_iff c i).1 hd
    have hrange := encode_toNat_range i
    omega

theorem writeCmd_reserved {c : Byte} {e : DecodeRefusal} (h : decode c = .error e) (s : State) :
    writeCmd c s = .next (s.refuse .reservedCommand) := by
  simp [writeCmd, h]

theorem Port.ofNumber_absent {n : Nat} (h : 6 ≤ n) : Port.ofNumber n = none := by
  obtain ⟨k, rfl⟩ := Nat.exists_eq_add_of_le' h
  rfl

/-- A write to a port that is not there or not writable is refused (30_encoding.md R83). -/
theorem portWrite_refused {n : Nat} (h : ∀ p, Port.ofNumber n = some p → p.writable = false) (v : Word64) (s : State) :
    portWrite n v s = .next (s.refuse .badPortAccess) := by
  unfold portWrite
  cases hn : Port.ofNumber n with
  | none => rfl
  | some p =>
    have hp := h p hn
    cases p with
    | cmd | arg | tfIn => cases hp
    | status | res | tfOut => rfl

/-- A read of a port that is not there or not readable is refused (30_encoding.md R83). -/
theorem portRead_refused {n : Nat} (h : ∀ p, Port.ofNumber n = some p → p.readable = false) (s : State) :
    portRead n s = .next (s.refuse .badPortAccess) := by
  unfold portRead
  cases hn : Port.ofNumber n with
  | none => rfl
  | some p =>
    have hp := h p hn
    cases p with
    | cmd => rfl
    | status | arg | res | tfIn | tfOut => cases hp

/-- An act that refuses in the state where it is taken makes a step that changes nothing but the mark. -/
theorem onlyRefused_of_perform {m : Move} {rest : List Move} {r : RefusalReason} (hm : s.moves = m :: rest)
    (h : perform m { s with moves := rest } = .next (State.refuse r { s with moves := rest })) : onlyRefused s rest :=
  (step_move hm).trans h

/-- Settles O6: a reserved word is no command's, and the other accesses go to a port that is not there or does not allow
them; no branch looks at fsm. -/
theorem illegalAccessesRefused : Obligations.IllegalAccessesRefused := by
  refine ⟨fun s c rest hm hc => ?_, fun s rest hm => ?_, fun s n v rest hm hn => ?_, fun s n v rest hn hm => ?_, by decide⟩
  · obtain ⟨e, he⟩ := decode_reserved hc
    have hcut : (c.setWidth 64).setWidth 8 = c := by simp
    exact onlyRefused_of_perform hm (writeCmd_reserved (by rwa [hcut]) _)
  · exact onlyRefused_of_perform hm (portRead_refused (n := 0) (by rintro p ⟨⟩; rfl) _)
  · refine onlyRefused_of_perform hm (portWrite_refused ?_ v _)
    rcases hn with rfl | rfl | rfl <;> rintro p ⟨⟩ <;> rfl
  · have habsent : Port.ofNumber n = none := Port.ofNumber_absent hn
    rcases hm with hm | hm
    · exact onlyRefused_of_perform hm (portWrite_refused (by simp [habsent]) v _)
    · exact onlyRefused_of_perform hm (portRead_refused (by simp [habsent]) _)

/-! ### The host's branch -/

theorem hostStatement_jz0 {bit target : Nat} (h : s.program[s.hostPc]? = some (.jz0 bit target)) :
    hostStatement s = .next { s with hostPc := if s.acc.getLsbD bit then s.hostPc + 1 else target } := by
  simp only [hostStatement, h]

/-- Settles O33: the branch tests the accumulator's bit, which is the quotient's parity. Above bit 63 it reads 0, the model's
choice (log 17). -/
theorem hostBranch : Obligations.HostBranch := by
  intro s bit target rest hm hp
  have hbit : s.acc.getLsbD bit = decide (s.acc.toNat / 2 ^ bit % 2 = 1) := Nat.testBit_eq_decide_div_mod_eq
  rw [step_move hm, perform, hostStatement_jz0 (s := { s with moves := rest }) hp, hbit]
  exact ⟨fun h => by simp [h], fun h => by simp [h]⟩

end Sys2Proof.Machine
end

section
/-! PROOF. The family of 40_codec.md: the conversion functions as plain arithmetic, their seven laws, the eight Codec commands,
and the frame of the commands that finish in their issue step. -/

namespace Sys2Proof.Machine

open Sys2Proof.Claims

variable {s t : State}

/-! ### The conversion functions as arithmetic -/

theorem bcd2dec_eq (b : Byte) : bcd2dec b = bcdValue b.toNat := by
  simp only [bcd2dec, bcdValue, BitVec.extractLsb'_toNat, Nat.shiftRight_eq_div_pow]
  omega

/-- The two digits stand in separate nibbles, so joining them is adding them (40_codec.md R120). -/
theorem dec2bcd_eq_bcdByte (d n : Nat) : dec2bcd d n = bcdByte d n := by
  have hjoin : (n / 10) <<< 4 ||| n % 10 = 16 * (n / 10) + n % 10 := by
    rw [← Nat.shiftLeft_add_eq_or_of_lt (by omega), Nat.shiftLeft_eq, Nat.mul_comm]
  rw [dec2bcd, bcdByte, hjoin]

theorem dec2bcd_toNat (d : Nat) {n : Nat} (h : n ≤ 99) : (dec2bcd d n).toNat = 16 * (n / 10) + n % 10 := by
  rw [dec2bcd_eq_bcdByte, bcdByte, if_pos h, BitVec.toNat_ofNat]
  omega

theorem fieldFromYear_eq_yearField (d : Nat) (y : Word16) : fieldFromYear d y = yearField d y.toNat := by
  rw [yearField, BitVec.ofNat_toNat, BitVec.setWidth_eq]
  rfl

theorem haltBit_toNat (b : Byte) : (haltBit b).toNat = b.toNat / 128 := by
  simp only [haltBit, BitVec.extractLsb'_toNat, Nat.shiftRight_eq_div_pow]
  omega

theorem secsOf_eq (b : Byte) : secsOf b = bcdValue (b.toNat % 128) := by
  rw [secsOf, bcd2dec_eq, BitVec.toNat_and]
  exact congrArg bcdValue (Nat.and_two_pow_sub_one_eq_mod b.toNat 7)

theorem hoursOf_eq : ∀ b : Byte, hoursOf b = (b.toNat / 128 * 8 + b.toNat / 16 % 4) * 10 + b.toNat % 16 := by decide

/-- Sign at weight 32, magnitude below it (40_codec.md R127). -/
theorem calEncode_toNat (v : Int) : (calEncode v).toNat = (if 0 ≤ v then 32 else 0) + v.natAbs % 32 := by
  have hmag : v.natAbs &&& 0x1F = v.natAbs % 32 := Nat.and_two_pow_sub_one_eq_mod _ 5
  rw [calEncode, hmag, toNat_append_eq_add, toNat_append_eq_add, BitVec.toNat_ofNat, BitVec.toNat_ofBool]
  by_cases hv : 0 ≤ v
  · simp [hv, Nat.add_comm]
  · simp [hv]

theorem calDecode_eq (b : Byte) : calDecode b =
    if b.toNat / 32 % 2 = 1 then ((b.toNat % 32 : Nat) : Int) else -((b.toNat % 32 : Nat) : Int) := by
  have hsign : b.extractLsb' 5 1 = 1#1 ↔ b.toNat / 32 % 2 = 1 := by
    rw [← BitVec.toNat_inj, BitVec.extractLsb'_toNat, Nat.shiftRight_eq_div_pow]
    rfl
  simp only [calDecode, hsign, BitVec.extractLsb'_toNat, Nat.shiftRight_zero, Nat.reducePow]

/-! ### Masks of a byte -/

/-- Bits outside a mask do not pass it. -/
theorem or_and_of_disjoint {c m : Byte} (h : c &&& m = 0#8) (b : Byte) : (b ||| c) &&& m = b &&& m := by
  rw [BitVec.and_or_distrib_right, h, BitVec.or_zero]

theorem secsOf_or_halt (b : Byte) : secsOf (b ||| 0x80#8) = secsOf b :=
  congrArg bcd2dec (or_and_of_disjoint (by decide) b)

theorem secsOf_and_run (b : Byte) : secsOf (b &&& 0x7F#8) = secsOf b := by
  rw [secsOf, BitVec.and_assoc, BitVec.and_self, secsOf]

theorem haltBit_or_halt : ∀ b : Byte, haltBit (b ||| 0x80#8) = 1#1 := by decide

theorem haltBit_and_run : ∀ b : Byte, haltBit (b &&& 0x7F#8) = 0#1 := by decide

theorem hoursOf_or_bitSix (b : Byte) : hoursOf (b ||| 0x40#8) = hoursOf b :=
  congrArg bcd2dec (or_and_of_disjoint (by decide) b)

/-! ### The laws of 40_codec.md R129 -/

theorem bcd2dec_dec2bcd (d : Nat) {n : Nat} (h : n ≤ 99) : bcd2dec (dec2bcd d n) = n := by
  rw [bcd2dec_eq, dec2bcd_toNat d h, bcdValue]
  omega

theorem yearFromField_fieldFromYear (d d' : Nat) {y : Word16} (hlo : 2000 ≤ y.toNat) (hhi : y.toNat ≤ 2099) :
    yearFromField (bcd2dec (dec2bcd d (fieldFromYear d' y))) = y.toNat := by
  rw [fieldFromYear_valid d' hlo, bcd2dec_dec2bcd d (by omega), yearFromField, Config.yearBase]
  omega

/-- Encoding again gives the byte back exactly when both nibbles are digits, where no draw is used. -/
theorem dec2bcd_bcd2dec_iff (d : Nat) {b : Byte} (h : bcd2dec b ≤ 99) :
    dec2bcd d (bcd2dec b) = b ↔ b.toNat / 16 ≤ 9 ∧ b.toNat % 16 ≤ 9 := by
  have hval : bcd2dec b = b.toNat / 16 * 10 + b.toNat % 16 := bcd2dec_eq b
  rw [← BitVec.toNat_inj, dec2bcd_toNat d h]
  omega

theorem bcd2dec_le_of_digits {b : Byte} (hhi : b.toNat / 16 ≤ 9) (hlo : b.toNat % 16 ≤ 9) : bcd2dec b ≤ 99 := by
  rw [bcd2dec_eq, bcdValue]
  omega

theorem calDecode_calEncode (v : Int) : calDecode (calEncode v) =
    if 0 ≤ v then v % 32 else -((v.natAbs % 32 : Nat) : Int) := by
  rw [calDecode_eq, calEncode_toNat]
  split <;> split <;> omega

/-- A zero magnitude comes back with the positive sign, whatever sign it had. -/
theorem calEncode_calDecode (b : Byte) :
    calEncode (calDecode b) = if b &&& 0x3F#8 = 0#8 then 0x20#8 else b &&& 0x3F#8 := by
  have hlow : (b &&& 0x3F#8).toNat = b.toNat % 64 := Nat.and_two_pow_sub_one_eq_mod b.toNat 6
  have hzero : b &&& 0x3F#8 = 0#8 ↔ b.toNat % 64 = 0 := by rw [← hlow, ← BitVec.toNat_inj]; rfl
  apply BitVec.eq_of_toNat_eq
  rw [calEncode_toNat, calDecode_eq, apply_ite BitVec.toNat, hlow]
  simp only [hzero, BitVec.toNat_ofNat]
  split <;> split <;> split <;> omega

theorem secsOf_dec2bcd (d : Nat) {n : Nat} (h : n ≤ 79) : secsOf (dec2bcd d n) = n := by
  rw [secsOf_eq, dec2bcd_toNat d (by omega), bcdValue]
  omega

theorem hoursOf_dec2bcd (d : Nat) {h : Nat} (hh : h ≤ 23) : hoursOf (dec2bcd d h) = h := by
  rw [hoursOf_eq, dec2bcd_toNat d (by omega)]
  omega

/-- Settles O45: each law from the functions as arithmetic, and the laws of the halt bit and of bit 6 from the masks. -/
theorem codecLaws : Obligations.CodecLaws := by
  refine ⟨fun d n => bcd2dec_dec2bcd d, fun d d' y => yearFromField_fieldFromYear d d', fun d b hhi hlo => ?_,
    fun d b h => (dec2bcd_bcd2dec_iff d h).1, fun v => calDecode_calEncode v.toInt, calEncode_calDecode,
    fun d n hn => ?_, fun d n _ => ?_, fun d h => hoursOf_dec2bcd d, hoursOf_or_bitSix⟩
  · exact (dec2bcd_bcd2dec_iff d (bcd2dec_le_of_digits hhi hlo)).2 ⟨hhi, hlo⟩
  · exact ⟨haltBit_or_halt _, (secsOf_or_halt _).trans (secsOf_dec2bcd d (by omega))⟩
  · exact ⟨haltBit_and_run _, fun hn => (secsOf_and_run _).trans (secsOf_dec2bcd d hn)⟩

/-! ### The commands that finish in their issue step -/

/-- A form-A command is turned away by a busy block or an empty ARG (41_transactions.md R160). -/
theorem turnedAway_formA {i : Instr} (hf : i.form = .a) : turnedAway i s ↔ s.fsm ≠ .idle ∨ s.arg = none := by
  simp [turnedAway, operandReady, hf]

/-- What a one-step command does: it is turned away with one mark set, or it puts a result and counts its draws. -/
def OneStepOutcome (i : Instr) (s t : State) : Prop :=
  (¬ turnedAway i s ∧ ∃ r n, t = (resulted s r).useDraws n) ∨ (turnedAway i s ∧ s.OnlyMarked t)

theorem issueA_oneStep {i : Instr} {k : Word16 → State → State} (hf : i.form = .a) (h : issueA s k = .next t)
    (hk : ∀ a, ∃ r n, k a s.beginIssue = (resulted s r).useDraws n) : OneStepOutcome i s t := by
  rw [OneStepOutcome, turnedAway_formA hf]
  rcases issueA_next.1 h with ⟨hi, a, ha, rfl⟩ | ⟨hb, rfl⟩ | ⟨hi, ha, rfl⟩
  · exact .inl ⟨by simp [hi, ha], hk a⟩
  · exact .inr ⟨.inl hb, .inl rfl⟩
  · exact .inr ⟨.inr ha, .inr rfl⟩

theorem execChippresent_oneStep (h : execChippresent s = .next t) : OneStepOutcome .chippresent s t := by
  have haway : turnedAway .chippresent s ↔ s.fsm ≠ .idle := by simp [turnedAway, operandReady, Instr.form]
  rw [OneStepOutcome, haway]
  rcases issueN_next.1 h with ⟨hi, rfl⟩ | ⟨hb, rfl⟩
  · exact .inl ⟨not_not.2 hi, _, 0, rfl⟩
  · exact .inr ⟨hb, .inl rfl⟩

theorem exec_oneStep {i : Instr} (hi : i ∈ oneStep) (h : exec i s = .next t) : OneStepOutcome i s t := by
  cases i with
  | read | write | isrunning | getcal | setcal => simp [oneStep] at hi
  | chippresent => exact execChippresent_oneStep h
  | bcdenc | yearenc =>
    simp only [exec, execBcdenc, execYearenc] at h
    exact issueA_oneStep rfl h fun _ => ⟨_, 1, rfl⟩
  | hoursdec | bcddec | yeardec | haltext | calenc | caldec => exact issueA_oneStep rfl h fun _ => ⟨_, 0, rfl⟩

/-- Settles O24: a one-step command puts a result or sets one mark, and either leaves every other field as it was. -/
theorem oneStepCommandFrame : Obligations.OneStepCommandFrame := by
  intro i s t hi h
  rcases exec_oneStep hi h with ⟨haway, r, n, rfl⟩ | ⟨haway, rfl | rfl⟩
  · simp [sameOutside, resulted, haway]
  · simp [sameOutside, haway]
  · simp [sameOutside, haway]

/-! ### The results of the Codec commands -/

/-- What a form-A command answers while IDLE: `after` with a value in ARG, the mark `faulted` with none; its word is the
encoder's (40_codec.md R131). -/
def FormAAnswers (i : Instr) (after : State → Word16 → State) : Prop :=
  (∀ (s : State) (a : Word16), s.fsm = .idle → s.arg = some a → exec i s = .next (after s a)) ∧
  (∀ s : State, s.fsm = .idle → s.arg = none → exec i s = .next { s with faulted := true }) ∧
  decode (encode i) = .ok i

theorem formAAnswers_of_issueA {i : Instr} {k : Word16 → State → State} {after : State → Word16 → State}
    (hexec : ∀ s, exec i s = issueA s k) (hk : ∀ s a, k a s.beginIssue = after s a) : FormAAnswers i after := by
  refine ⟨fun s a hi ha => ?_, fun s hi ha => ?_, decode_encode i⟩
  · rw [hexec, issueA_some hi ha, hk]
  · rw [hexec, issueA_none hi ha]; rfl

/-- A Codec command without a draw puts its function of ARG in RES. -/
theorem formAAnswers_of_codecCommand {i : Instr} {f g : Word16 → Word16} (hexec : ∀ s, exec i s = codecCommand f s)
    (hfg : ∀ a, f a = g a) : FormAAnswers i fun s a => resulted s (g a) :=
  formAAnswers_of_issueA hexec fun s a => congrArg (resulted s) (hfg a)

/-- One with a draw puts its function of the draw's number and ARG in RES, and counts the draw. -/
theorem formAAnswers_of_draw {i : Instr} {g : State → Word16 → Word16} (f : Nat → Word16 → Word16)
    (hexec : ∀ s, exec i s = issueA s fun a t => (t.resultAtIssue (f t.draws a)).useDraws 1)
    (hfg : ∀ s a, f s.draws a = g s a) : FormAAnswers i fun s a => { resulted s (g s a) with draws := s.draws + 1 } :=
  formAAnswers_of_issueA hexec fun s a => congrArg (fun r => (resulted s r).useDraws 1) (hfg s a)

/-- Settles O10: BCDENC is `dec2bcd` of ARG[7:0], whose digits add up. -/
theorem bcdencEncodes : Obligations.BcdencEncodes :=
  formAAnswers_of_draw (i := .bcdenc) (fun d a => (dec2bcd d (operandU8 a).toNat).setWidth 16) (fun _ => rfl) fun s a => by
    rw [dec2bcd_eq_bcdByte, operandU8_toNat]

/-- Settles O11: BCDDEC is `bcd2dec` of ARG[7:0]. -/
theorem bcddecDecodes : Obligations.BcddecDecodes :=
  formAAnswers_of_codecCommand (i := .bcddec) (fun _ => rfl) fun a => by rw [bcd2dec_eq, operandU8_toNat, zext16]

/-- Settles O12: YEARDEC is `yearFromField` of ARG[7:0]. -/
theorem yeardecAddsTheBase : Obligations.YeardecAddsTheBase :=
  formAAnswers_of_codecCommand (i := .yeardec) (fun _ => rfl) fun a => by
    rw [operandU8_toNat, yearFromField, Config.yearBase, zext16]

/-- Settles O13: YEARENC is `fieldFromYear` of ARG. -/
theorem yearencTakesModulo : Obligations.YearencTakesModulo :=
  formAAnswers_of_draw (i := .yearenc) (fun d a => zext16 (fieldFromYear d (operandU16 a))) (fun _ => rfl) fun s a => by
    rw [fieldFromYear_eq_yearField, operandU16, zext16]

/-- Settles O14: the halt bit has weight 256 in the append, and the seconds fit the byte below it. -/
theorem haltextSplitsTheSeconds : Obligations.HaltextSplitsTheSeconds :=
  formAAnswers_of_codecCommand (i := .haltext) (fun _ => rfl) fun a => by
    have hle : secsOf (operandU8 a) ≤ 85 := secsOf_le (operandU8 a)
    have hsecs : secsOf (operandU8 a) = bcdValue (a.toNat % 128) := by
      rw [secsOf_eq, operandU8_toNat, Nat.mod_mod_of_dvd _ (by decide)]
    have hhalt : (haltBit (operandU8 a)).toNat = a.toNat % 256 / 128 := by rw [haltBit_toNat, operandU8_toNat]
    apply BitVec.eq_of_toNat_eq
    rw [toNat_append_eq_add, toNat_append_eq_add, hhalt, ← hsecs]
    simp only [BitVec.toNat_ofNat]
    omega

/-- Settles O15: CALENC is `calEncode` of the two's-complement reading of ARG[7:0]. -/
theorem calencIsSignMagnitude : Obligations.CalencIsSignMagnitude :=
  formAAnswers_of_codecCommand (i := .calenc) (fun _ => rfl) fun a => by
    rw [operandI8_eq_toInt, ← calEncode_toNat, BitVec.ofNat_toNat]

/-- Settles O16: CALDEC is `calDecode` of ARG[7:0], which reads bits 5:0 only. -/
theorem caldecReadsSignMagnitude : Obligations.CaldecReadsSignMagnitude :=
  formAAnswers_of_codecCommand (i := .caldec) (fun _ => rfl) fun a => by
    have hsign : a.toNat % 256 / 32 % 2 = a.toNat / 32 % 2 := by omega
    have hmag : a.toNat % 256 % 32 = a.toNat % 32 := by omega
    rw [calDecode_eq, operandU8_toNat, hsign, hmag, sext16]

/-- Settles O17: HOURSDEC is `hoursOf` of ARG[7:0]. -/
theorem hoursdecIgnoresBitSix : Obligations.HoursdecIgnoresBitSix :=
  formAAnswers_of_codecCommand (i := .hoursdec) (fun _ => rfl) fun a => by
    have hhigh : a.toNat % 256 / 16 % 4 = a.toNat / 16 % 4 := by omega
    have hlow : a.toNat % 256 % 16 = a.toNat % 16 := by omega
    rw [hoursOf_eq, operandU8_toNat, hhigh, hlow, zext16]

end Sys2Proof.Machine
end

section
/-! PROOF. The family of 41_transactions.md: what a command issues, how a response moves the sequencer, the invariant that every
step keeps, progress and completion, and the five transactions. -/

namespace Sys2Proof.Machine

open Sys2Proof.Claims

variable {s t : State}

/-! ### Issue -/

/-- The issue of a form-N command: the checks of its form, then a part of its own (41_transactions.md R160). -/
theorem exec_formN {i : Instr} (hf : i.form = .n) : ∃ k : State → State, ∀ s, exec i s = issueN s k := by
  cases i with
  | read | isrunning | getcal | chippresent =>
    simp only [exec, execRead, execIsrunning, execGetcal, execChippresent]
    exact ⟨_, fun _ => rfl⟩
  | write | setcal | hoursdec | bcdenc | bcddec | yeardec | yearenc | haltext | calenc | caldec => cases hf

theorem exec_formA {i : Instr} (hf : i.form = .a) : ∃ k : Word16 → State → State, ∀ s, exec i s = issueA s k := by
  cases i with
  | setcal | hoursdec | bcdenc | bcddec | yeardec | yearenc | haltext | calenc | caldec =>
    simp only [exec, execBcdenc, execYearenc]
    exact ⟨_, fun _ => rfl⟩
  | read | write | isrunning | getcal | chippresent => cases hf

theorem exec_formT {i : Instr} (hf : i.form = .t) : ∃ k : TimeFields → State → State, ∀ s, exec i s = issueT s k := by
  cases i with
  | write =>
    simp only [exec, execWrite]
    exact ⟨_, fun _ => rfl⟩
  | read | isrunning | getcal | chippresent => cases hf
  | setcal | hoursdec | bcdenc | bcddec | yeardec | yearenc | haltext | calenc | caldec => cases hf

theorem exec_formA_none {i : Instr} (hf : i.form = .a) (hi : s.fsm = .idle) (ha : s.arg = none) :
    exec i s = .next (s.fault .operandUnwritten) := by
  obtain ⟨k, hk⟩ := exec_formA hf
  rw [hk, issueA_none hi ha]

theorem exec_formT_none {i : Instr} (hf : i.form = .t) (hi : s.fsm = .idle) (hv : s.tfIn = none) :
    exec i s = .next (s.fault .operandUnwritten) := by
  obtain ⟨k, hk⟩ := exec_formT hf
  rw [hk, issueT_none hi hv]

/-- Every command answers: it issues, or it is turned away with a mark set. -/
theorem exec_goesOn (i : Instr) (s : State) : ∃ t, exec i s = .next t := by
  by_cases hi : s.fsm = .idle
  · cases hf : i.form with
    | n =>
      obtain ⟨k, hk⟩ := exec_formN hf
      exact ⟨_, by rw [hk, issueN_idle hi]⟩
    | a =>
      cases ha : s.arg with
      | none => exact ⟨_, exec_formA_none hf hi ha⟩
      | some a =>
        obtain ⟨k, hk⟩ := exec_formA hf
        exact ⟨_, by rw [hk, issueA_some hi ha]⟩
    | t =>
      cases hv : s.tfIn with
      | none => exact ⟨_, exec_formT_none hf hi hv⟩
      | some v =>
        obtain ⟨k, hk⟩ := exec_formT hf
        exact ⟨_, by rw [hk, issueT_some hi hv]⟩
  · exact ⟨_, exec_busy i hi⟩

/-! ### What a transport command issues -/

/-- The sequencer state in which a transport command's first request waits (41_transactions.md R165 to R169); IDLE for the
commands that send none. -/
def firstState : Instr → Fsm
  | .read => .rdPtr
  | .write => .wrP1
  | .isrunning => .irPtr
  | .getcal => .gcPtr
  | .setcal => .scWr
  | .chippresent | .hoursdec | .bcdenc | .bcddec | .yeardec | .yearenc | .haltext | .calenc | .caldec => .idle

/-- The state after a transport command has issued with request `q`, WRITE's second seconds byte `sec2` and `n` draws. -/
def launched (i : Instr) (q : Request) (sec2 : Byte) (n : Nat) (s : State) : State :=
  { s with
    fsm := firstState i
    req := some q
    done := false
    code := .none
    latSec := if i = .write then some sec2 else s.latSec
    tfOut := if i = .read then none else s.tfOut
    tfv := if i = .read then false else s.tfv
    res := if i = .isrunning ∨ i = .getcal then none else s.res
    draws := s.draws + n }

/-- What a transport command does: it is turned away with one mark set, or it sends its first request. -/
def TransportOutcome (i : Instr) (s t : State) : Prop :=
  (¬ turnedAway i s ∧ ∃ q sec2 n, t = launched i q sec2 n s) ∨ (turnedAway i s ∧ s.OnlyMarked t)

theorem turnedAway_formN {i : Instr} (hf : i.form = .n) : turnedAway i s ↔ s.fsm ≠ .idle := by
  simp [turnedAway, operandReady, hf]

theorem turnedAway_formT {i : Instr} (hf : i.form = .t) : turnedAway i s ↔ s.fsm ≠ .idle ∨ s.tfIn = none := by
  simp [turnedAway, operandReady, hf]

theorem issueN_transport {i : Instr} {k : State → State} (hf : i.form = .n) (h : issueN s k = .next t)
    (hk : ∃ q sec2 n, k s.beginIssue = launched i q sec2 n s) : TransportOutcome i s t := by
  rw [TransportOutcome, turnedAway_formN hf]
  rcases issueN_next.1 h with ⟨hi, rfl⟩ | ⟨hb, rfl⟩
  · exact .inl ⟨not_not.2 hi, hk⟩
  · exact .inr ⟨hb, .inl rfl⟩

/-- By its form, each transport command passes the checks and sends, or is turned away. -/
theorem exec_transport {i : Instr} (hi : i ∈ transport) (h : exec i s = .next t) : TransportOutcome i s t := by
  cases i with
  | chippresent | hoursdec | bcdenc | bcddec | yeardec | yearenc | haltext | calenc | caldec => simp [transport] at hi
  | read | isrunning | getcal =>
    simp only [exec, execRead, execIsrunning, execGetcal] at h
    exact issueN_transport rfl h ⟨_, 0, 0, rfl⟩
  | write =>
    rw [TransportOutcome, turnedAway_formT rfl]
    simp only [exec, execWrite] at h
    rcases issueT_next.1 h with ⟨hi, v, hv, rfl⟩ | ⟨hb, rfl⟩ | ⟨-, hv, rfl⟩
    · exact .inl ⟨by simp [hi, hv], _, _, 7, rfl⟩
    · exact .inr ⟨.inl hb, .inl rfl⟩
    · exact .inr ⟨.inr hv, .inr rfl⟩
  | setcal =>
    rw [TransportOutcome, turnedAway_formA rfl]
    simp only [exec, execSetcal] at h
    rcases issueA_next.1 h with ⟨hi, a, ha, rfl⟩ | ⟨hb, rfl⟩ | ⟨-, ha, rfl⟩
    · exact .inl ⟨by simp [hi, ha], _, 0, 0, rfl⟩
    · exact .inr ⟨.inl hb, .inl rfl⟩
    · exact .inr ⟨.inr ha, .inr rfl⟩

theorem mem_transport_or_mem_oneStep (i : Instr) : i ∈ transport ∨ i ∈ oneStep := by
  cases i <;> decide

theorem oneStep_disjoint_transport {i : Instr} (h : i ∈ oneStep) : i ∉ transport := by
  revert i
  decide

theorem firstState_ne_idle {i : Instr} (h : i ∈ transport) : firstState i ≠ .idle := by
  revert i
  decide

/-- Settles O9: a busy block refuses before any operand is looked at, an empty operand register faults, and what then issues
is a transport command in flight or a one-step command done. -/
theorem issueChecksInOrder : Obligations.IssueChecksInOrder := by
  refine ⟨fun i s hb => exec_busy i hb, fun i s hi hf ha => exec_formA_none hf hi ha,
    fun i s hi hf hv => exec_formT_none hf hi hv, fun i s hi hready => ?_⟩
  have haway : ¬ turnedAway i s := fun h => h.elim (absurd hi) (absurd hready)
  obtain ⟨t, ht⟩ := exec_goesOn i s
  refine ⟨t, ht, ?_⟩
  rcases mem_transport_or_mem_oneStep i with hmem | hmem
  · have hone : i ∉ oneStep := fun h => oneStep_disjoint_transport h hmem
    rcases exec_transport hmem ht with ⟨-, q, sec2, n, rfl⟩ | ⟨h, -⟩
    · exact ⟨rfl, fun _ => ⟨decide_eq_true (firstState_ne_idle hmem), rfl⟩, fun h => absurd h hone⟩
    · exact absurd h haway
  · have htransport : i ∉ transport := oneStep_disjoint_transport hmem
    rcases exec_oneStep hmem ht with ⟨-, r, n, rfl⟩ | ⟨h, -⟩
    · exact ⟨rfl, fun h => absurd h htransport, fun _ => ⟨decide_eq_false (not_not.2 hi), rfl⟩⟩
    · exact absurd h haway

/-- Settles O25: a transport command sends its first request or sets one mark, and either leaves every other field as it
was. -/
theorem transportIssueFrame : Obligations.TransportIssueFrame := by
  intro i s t hi h
  rcases exec_transport hi h with ⟨haway, q, sec2, n, rfl⟩ | ⟨haway, rfl | rfl⟩
  · simp +contextual [sameOutside, launched, haway]
  · simp [sameOutside, haway]
  · simp [sameOutside, haway]

/-- Settles O18: CHIPPRESENT is of form N, and its result is P as a number. -/
theorem chippresentReadsPresence : Obligations.ChippresentReadsPresence := by
  refine ⟨fun s hi => (issueN_idle hi).trans ?_, decode_encode .chippresent⟩
  cases hp : s.chipPresence <;> simp [resulted, zext16, hp, State.resultAtIssue]

/-! ### What an answer and a response do -/

/-- Settles O8: an answer is the act the step performs. That it is refused with no request outstanding is the model's choice
(log 15). -/
theorem answerRunsSequencer : Obligations.AnswerRunsSequencer := by
  refine ⟨fun s d q rest hm hq => ?_, fun s d rest hm hq => ?_⟩ <;> simp [step_move hm, perform, answerRequest, hq]

/-- The bytes that the BlockRead of a sequencer state asks for (41_transactions.md R165, R167, R168); 0 where a write
waits. -/
def readCount : Fsm → Nat
  | .rdData => Config.timeLen
  | .irData | .gcData => 1
  | .idle | .rdPtr | .wrP1 | .wrP2 | .irPtr | .gcPtr | .scWr => 0

/-- P after a response in this sequencer state (41_transactions.md R162). -/
def State.presenceNext (s : State) (r : Response) : Bool := presenceAfter (readCount s.fsm) r s.chipPresence

/-- How a command ends with P at `p`: with a CODE and no result, READ with its fields, ISRUNNING and GETCAL with RES
(41_transactions.md R161, R165 to R169). -/
inductive Ending (s : State) (p : Bool) : State → Prop where
  | code (c : Code) (hread : c = .shortRead ∨ c = .clockHalted → s.fsm = .rdData) : Ending s p (ended s p c)
  | fields (b : TimeBlock) (hread : s.fsm = .rdData) :
      Ending s p { ended s p .ok with tfOut := some (decodeBlock b).pack, tfv := true }
  | result (r : Word16) (hres : s.fsm = .irPtr ∨ s.fsm = .irData ∨ s.fsm = .gcPtr ∨ s.fsm = .gcData) :
      Ending s p { ended s p .none with res := some r }

/-- READ's data step ends in a CODE or in fields, the short read and the halted clock among the CODEs. -/
theorem readOutcome_ending (hf : s.fsm = .rdData) (bs : List Byte) (n : Nat) (r : Response) :
    Ending s (presenceAfter n r s.chipPresence) (readOutcome bs (s.presence n r)) := by
  unfold readOutcome
  split
  · exact .code .shortRead fun _ => hf
  next b _ =>
    split
    · exact .code .clockHalted fun _ => hf
    · exact .fields b hf

theorem isrunningOutcome_ending (hf : s.fsm = .irData) (bs : List Byte) (n : Nat) (r : Response) :
    Ending s (presenceAfter n r s.chipPresence) (isrunningOutcome bs (s.presence n r)) := by
  cases bs with
  | nil => exact .result 0x0002#16 (.inr (.inl hf))
  | cons b bs => exact .result _ (.inr (.inl hf))

theorem getcalOutcome_ending (hf : s.fsm = .gcData) (bs : List Byte) (n : Nat) (r : Response) :
    Ending s (presenceAfter n r s.chipPresence) (getcalOutcome bs (s.presence n r)) := by
  cases bs with
  | nil => exact .result Config.calSentinel (.inr (.inr (.inr hf)))
  | cons b bs => exact .result _ (.inr (.inr (.inr hf)))

theorem writeResponse_ending {onOk : State → Result} {onErr : State → State} {r : Response}
    (h : writeResponse onOk onErr r s = .next t) (hOk : onOk (s.presence 0 .ok) = .next t → Ending s true t)
    (hErr : Ending s false (onErr (s.presence 0 .err))) : Ending s (s.presenceNext r) t := by
  rcases writeResponse_next.1 h with ⟨rfl, hok⟩ | ⟨rfl, rfl⟩
  · exact hOk hok
  · exact hErr

theorem readResponse_ending {n : Nat} {onBytes : List Byte → State → State} {onErr : State → State} {r : Response}
    (h : readResponse n onBytes onErr r s = .next t) (hn : readCount s.fsm = n)
    (hBytes : ∀ bs r, Ending s (presenceAfter n r s.chipPresence) (onBytes bs (s.presence n r)))
    (hErr : Ending s false (onErr (s.presence n .err))) : Ending s (s.presenceNext r) t := by
  rw [State.presenceNext, hn]
  rcases readResponse_next.1 h with ⟨rfl, rfl⟩ | ⟨bs, rfl, rfl⟩
  · exact hErr
  · exact hBytes bs _

/-- A response that returns the sequencer to IDLE ends the command, P first (41_transactions.md R161, R162). -/
theorem respond_ending {r : Response} (h : respond r s = .next t) (hidle : t.fsm = .idle) :
    Ending s (s.presenceNext r) t := by
  cases hf : s.fsm <;> rw [respond, hf] at h
  case idle => cases h
  case rdPtr => exact writeResponse_ending h (fun hok => by cases hok; cases hidle) (.code .busErr nofun)
  case irPtr => exact writeResponse_ending h (fun hok => by cases hok; cases hidle) (.result 0x0002#16 (.inl hf))
  case gcPtr =>
    exact writeResponse_ending h (fun hok => by cases hok; cases hidle) (.result Config.calSentinel (.inr (.inr (.inl hf))))
  case wrP1 =>
    refine writeResponse_ending h (fun hok => ?_) (.code .busErr nofun)
    cases hl : s.latSec <;> simp only [State.presence_latSec, hl] at hok <;> cases hok
    cases hidle
  case wrP2 | scWr =>
    exact writeResponse_ending h (fun hok => by cases hok; exact .code .ok nofun) (.code .busErr nofun)
  case rdData =>
    exact readResponse_ending h (by rw [hf]; rfl) (fun bs => readOutcome_ending hf bs _) (.code .busErr nofun)
  case irData =>
    exact readResponse_ending h (by rw [hf]; rfl) (fun bs => isrunningOutcome_ending hf bs _)
      (.result 0x0002#16 (.inr (.inl hf)))
  case gcData =>
    exact readResponse_ending h (by rw [hf]; rfl) (fun bs => getcalOutcome_ending hf bs _)
      (.result Config.calSentinel (.inr (.inr (.inr hf))))

/-- What a response does: it ends the command, or it is the first `Ok` of a command with a data step, which is sent. -/
theorem respond_cases {r : Response} (h : respond r s = .next t) :
    Ending s (s.presenceNext r) t ∨ r = .ok ∧ ∃ f q, s.dataStep = some (f, q) ∧ t = (s.presence 0 .ok).send f q := by
  refine (respond_next h).imp_left fun ⟨u, c, hfin⟩ => ?_
  exact respond_ending h (by rw [hfin]; rfl)

/-- The presence law holds at every response, whatever it does besides (41_transactions.md R162). -/
theorem respond_chipPresence {r : Response} (h : respond r s = .next t) : t.chipPresence = s.presenceNext r := by
  rcases respond_cases h with hend | ⟨rfl, f, q, -, rfl⟩
  · cases hend <;> rfl
  · rfl

/-! ### Frames and presence -/

/-- The statements' frame, register by register. -/
theorem sameOutside_of_outside (h : t.outside = s.outside) : sameOutside s t :=
  ⟨(congrArg State.arg h :), (congrArg State.tfIn h :), fun a => (congrArg (fun u => u.chip.read a) h :),
    (congrArg State.chipPtr h :), (congrArg State.acc h :), (congrArg State.program h :), (congrArg State.hostPc h :),
    (congrArg State.moves h :)⟩

/-- Settles O26: the outside and the marks never change; of the ends only READ's writes TF_OUT and only those of ISRUNNING
and GETCAL write RES. -/
theorem responseFrame : Obligations.ResponseFrame := by
  intro r s t h
  refine ⟨sameOutside_of_outside (respond_outside h), ?_⟩
  rcases respond_cases h with hend | ⟨-, f, q, -, rfl⟩
  · cases hend with
    | code c => exact ⟨rfl, rfl, rfl, fun _ => ⟨rfl, rfl⟩, .inl rfl⟩
    | fields b hread => exact ⟨rfl, rfl, rfl, fun hnot => absurd ⟨hread, rfl⟩ hnot, .inl rfl⟩
    | result r hres => exact ⟨rfl, rfl, rfl, fun _ => ⟨rfl, rfl⟩, .inr ⟨rfl, hres⟩⟩
  · exact ⟨rfl, rfl, rfl, fun _ => ⟨rfl, rfl⟩, .inl rfl⟩

/-- A BlockRead is outstanding in a data step alone, and asks for the bytes of that step. -/
theorem State.requestFits.blockRead (hs : s.requestFits) {dev : Byte} {n : Nat} (hq : s.req = some (.blockRead dev n)) :
    readCount s.fsm = n ∧ s.fsm.afterFirstOk = true := by
  cases hf : s.fsm <;> simp only [State.requestFits, hf, hq] at hs
  case idle | rdPtr | irPtr | gcPtr => cases hs.1
  case wrP1 => obtain ⟨e, fields, -, ⟨⟩, -⟩ := hs
  case wrP2 => obtain ⟨e, ⟨⟩, -⟩ := hs
  case scWr => obtain ⟨c, -, ⟨⟩, -⟩ := hs
  case rdData | irData | gcData =>
    obtain ⟨⟨⟩, -⟩ := hs
    exact ⟨rfl, rfl⟩

theorem exec_chipPresence {i : Instr} (h : exec i s = .next t) : t.chipPresence = s.chipPresence := by
  rcases mem_transport_or_mem_oneStep i with hi | hi
  · rcases exec_transport hi h with ⟨-, q, sec2, n, rfl⟩ | ⟨-, rfl | rfl⟩ <;> rfl
  · rcases exec_oneStep hi h with ⟨-, r, n, rfl⟩ | ⟨-, rfl | rfl⟩ <;> rfl

/-- Settles O34: P after a response is the presence law's; a short read leaves P, which is 1 in a data step already. -/
theorem presenceLaw : Obligations.PresenceLaw := by
  refine ⟨fun s t r q hs hq h => ?_, fun i s t h => exec_chipPresence h⟩
  have hp : t.chipPresence = s.presenceNext r := respond_chipPresence h
  refine ⟨?_, ?_, ?_⟩
  · rintro rfl; exact hp
  · rintro rfl; exact hp
  · rintro bs dev n rfl rfl
    obtain ⟨hn, hdata⟩ := hs.request.blockRead hq
    rw [State.presenceNext, hn] at hp
    have hfull : n ≤ bs.length → t.chipPresence = true := fun hle => hp.trans (presenceAfter_full hle _)
    have hshort : bs.length < n → t.chipPresence = s.chipPresence := fun hlt => hp.trans (presenceAfter_short hlt _)
    refine ⟨hfull, hshort, ?_⟩
    rcases Nat.lt_or_ge bs.length n with hlt | hle
    · exact (hshort hlt).trans (hs.present hdata)
    · exact hfull hle

/-! ### The invariant -/

/-- The invariant speaks of the sequencer's half and of which registers the chip has. -/
theorem State.Inv.congr (hs : s.Inv) (h : t.sequencer = s.sequencer) (hchip : Memory.addrs t.chip = Memory.addrs s.chip) :
    t.Inv := by
  obtain ⟨hf, hq, hl, hp, hd, hc, hr, ho, hv⟩ := State.sequencer_registers h
  refine ⟨hs.request.of_sequencer h, ?_, ?_, ?_, ?_, ?_, ?_, ?_, hchip.trans hs.chip⟩
  · rw [hf, hd, hc]; exact hs.inFlight
  · rw [hf, hd, hc, hv]; exact hs.untouched
  · rw [hf, hp]; exact hs.present
  · rw [hv, ho]; exact hs.valid
  · rw [hf, hc, ho]; exact hs.noFields
  · rw [hf, hr]; exact hs.noResult
  · rw [ho]; exact hs.fields

theorem State.Inv.of_onlyMarked (hs : s.Inv) (h : s.OnlyMarked t) : t.Inv := by
  rcases h with rfl | rfl <;> exact hs.congr rfl rfl

/-- The invariant of a state at rest whose last command is done: what remains is about TF_OUT and the chip. -/
theorem State.AtRest.inv (h : t.AtRest) (hdone : t.done = true) (hvalid : t.tfv = t.tfOut.isSome)
    (hfailed : t.code = .shortRead ∨ t.code = .clockHalted → t.tfOut = none)
    (hfields : ∀ v, t.tfOut = some v → TimeFieldsInRange (TimeFields.unpack v))
    (hchip : Memory.addrs t.chip = [0, 1, 2, 3, 4, 5, 6, 7]) : t.Inv where
  request := h.opening.fits
  inFlight hb := absurd h.1 hb
  untouched _ hd := by rw [hdone] at hd; cases hd
  present hdata := by rw [h.1] at hdata; cases hdata
  valid := hvalid
  noFields hor := by
    rw [h.1] at hor
    rcases hor with hf | hf | hc
    · cases hf
    · cases hf
    · exact hfailed hc
  noResult hor := by rw [h.1] at hor; simp at hor
  fields := hfields
  chip := hchip

/-- A command that finishes in its issue step leaves CODE NONE and TF_OUT as it was. -/
theorem resulted_inv (hs : s.Inv) (hi : s.fsm = .idle) (r : Word16) (n : Nat) : ((resulted s r).useDraws n).Inv :=
  State.AtRest.inv (hs.request.atRest hi) rfl hs.valid (fun h => h.elim nofun nofun) hs.fields hs.chip

theorem firstState_noData {i : Instr} (h : i ∈ transport) : (firstState i).afterFirstOk = false := by
  revert i
  decide

theorem eq_read_of_firstState {i : Instr} (h : i ∈ transport) :
    firstState i = .rdPtr ∨ firstState i = .rdData → i = .read := by
  revert i
  decide

theorem resultCommand_of_firstState {i : Instr} (h : i ∈ transport) :
    firstState i = .irPtr ∨ firstState i = .irData ∨ firstState i = .gcPtr ∨ firstState i = .gcData →
      i = .isrunning ∨ i = .getcal := by
  revert i
  decide

/-- A transport command in its first state: READ has emptied TF_OUT, ISRUNNING and GETCAL have emptied RES. -/
theorem launched_inv (hs : s.Inv) {i : Instr} (hi : i ∈ transport) {q : Request} {sec2 : Byte} {n : Nat}
    (hfits : (launched i q sec2 n s).requestFits) : (launched i q sec2 n s).Inv where
  request := hfits
  inFlight _ := ⟨rfl, rfl⟩
  untouched hidle := absurd hidle (firstState_ne_idle hi)
  present hdata := absurd hdata (by rw [launched, firstState_noData hi]; decide)
  valid := by
    by_cases hread : i = .read
    · simp [launched, hread]
    · simpa [launched, hread] using hs.valid
  noFields hor := by
    have hread : i = .read := eq_read_of_firstState hi (by simpa [launched] using hor)
    simp [launched, hread]
  noResult hor := by
    have hres := resultCommand_of_firstState hi hor
    simp [launched, hres]
  fields v hv := by
    by_cases hread : i = .read
    · simp [launched, hread] at hv
    · exact hs.fields v (by simpa [launched, hread] using hv)
  chip := hs.chip

/-- Every command keeps the invariant: it is turned away, is done at once, or is in its first state. -/
theorem exec_inv (hs : s.Inv) {i : Instr} (h : exec i s = .next t) : t.Inv := by
  rcases mem_transport_or_mem_oneStep i with hi | hi
  · rcases exec_transport hi h with ⟨haway, q, sec2, n, rfl⟩ | ⟨-, hmark⟩
    · have hidle : s.fsm = .idle := not_not.1 fun hb => haway (.inl hb)
      exact launched_inv hs hi (exec_opening (hs.request.atRest hidle) h).fits
    · exact hs.of_onlyMarked hmark
  · rcases exec_oneStep hi h with ⟨haway, r, n, rfl⟩ | ⟨-, hmark⟩
    · exact resulted_inv hs (not_not.1 fun hb => haway (.inl hb)) r n
    · exact hs.of_onlyMarked hmark

/-- A port access issues a command, or leaves the sequencer and the chip. -/
theorem performAccess_next {a : Access} (h : performAccess a s = .next t) :
    (∃ i, exec i s = .next t) ∨ t.sequencer = s.sequencer ∧ t.chip = s.chip := by
  cases a with
  | write n v =>
    rcases portWrite_next h with ⟨-, i, -, hi⟩ | ⟨-, rfl⟩ | ⟨-, rfl⟩ | ⟨r, rfl⟩
    · exact .inl ⟨i, hi⟩
    · exact .inr ⟨rfl, rfl⟩
    · exact .inr ⟨rfl, rfl⟩
    · exact .inr ⟨rfl, rfl⟩
  | read n => rcases portRead_next h with ⟨v, rfl⟩ | rfl | rfl <;> exact .inr ⟨rfl, rfl⟩

theorem performAccess_inv (hs : s.Inv) {a : Access} (h : performAccess a s = .next t) : t.Inv := by
  rcases performAccess_next h with ⟨i, hi⟩ | ⟨hseq, hchip⟩
  · exact exec_inv hs hi
  · exact hs.congr hseq (congrArg Memory.addrs hchip)

theorem hostStatement_inv (hs : s.Inv) (h : hostStatement s = .next t) : t.Inv := by
  rcases hostStatement_next h with ⟨a, ha⟩ | ⟨pc, rfl⟩
  · have hpc : State.Inv { s with hostPc := s.hostPc + 1 } := hs.congr rfl rfl
    exact performAccess_inv hpc ha
  · exact hs.congr rfl rfl

/-- The sequencer states before and after the `Ok` that starts a data step: the data step is the one of the same command
(41_transactions.md R171). -/
structure DataStepAfter (before f : Fsm) : Prop where
  busy : before ≠ .idle
  first : before.afterFirstOk = false
  data : f.afterFirstOk = true
  read : f = .rdData → before = .rdPtr
  isrunning : f = .irData → before = .irPtr
  getcal : f = .gcData → before = .gcPtr

theorem DataStepAfter.after_busy {before f : Fsm} (h : DataStepAfter before f) : f ≠ .idle := by
  rintro rfl
  cases h.data

theorem State.dataStep_after {f : Fsm} {q : Request} (h : s.dataStep = some (f, q)) : DataStepAfter s.fsm f := by
  cases hf : s.fsm <;> simp only [State.dataStep, hf] at h
  case idle | rdData | wrP2 | irData | gcData | scWr => cases h
  case rdPtr | irPtr | gcPtr =>
    cases h
    constructor <;> simp [Fsm.afterFirstOk]
  case wrP1 =>
    cases hl : s.latSec <;> rw [hl] at h <;> cases h
    constructor <;> simp [Fsm.afterFirstOk]

/-- The data step an `Ok` sends: P is 1, and what the first step left empty still is. -/
theorem dataStep_inv (hs : s.Inv) {f : Fsm} {q : Request} (hd : s.dataStep = some (f, q)) :
    ((s.presence 0 .ok).send f q).Inv := by
  have hfits : ((s.presence 0 .ok).send f q).requestFits := hs.request.dataStep hd _ rfl
  have hafter : DataStepAfter s.fsm f := State.dataStep_after hd
  have hdata := hafter.data
  refine ⟨hfits, fun _ => hs.inFlight hafter.busy, fun hidle => absurd hidle hafter.after_busy, fun _ => rfl, hs.valid,
    fun hor => hs.noFields ?_, fun hor => hs.noResult ?_, hs.fields, hs.chip⟩
  · rcases hor with rfl | hf | hcode
    · cases hdata
    · exact .inl (hafter.read hf)
    · exact .inr (.inr hcode)
  · rcases hor with rfl | hf | rfl | hf
    · cases hdata
    · exact .inl (hafter.isrunning hf)
    · cases hdata
    · exact .inr (.inr (.inl (hafter.getcal hf)))

theorem toNat_ofNat_byte {n : Nat} (h : n ≤ 165) : (BitVec.ofNat 8 n).toNat = n := by
  rw [BitVec.toNat_ofNat, Nat.mod_eq_of_lt (by omega)]

/-- The decoded fields as numbers: each fits its field (41_transactions.md R164). -/
theorem decodeBlock_toNat (b : TimeBlock) :
    (decodeBlock b).second.toNat = secsOf b.seconds ∧ (decodeBlock b).minute.toNat = bcd2dec b.minutes ∧
    (decodeBlock b).hour.toNat = hoursOf b.hours ∧ (decodeBlock b).weekday.toNat = bcd2dec b.weekday ∧
    (decodeBlock b).day.toNat = bcd2dec b.day ∧ (decodeBlock b).month.toNat = bcd2dec b.month ∧
    (decodeBlock b).year.toNat = 2000 + bcd2dec b.year := by
  have hyear : 2000 + bcd2dec b.year < 2 ^ 16 := by have := bcd2dec_le b.year; omega
  exact ⟨toNat_ofNat_byte ((secsOf_le _).trans (by decide)), toNat_ofNat_byte (bcd2dec_le _),
    toNat_ofNat_byte ((hoursOf_le _).trans (by decide)), toNat_ofNat_byte (bcd2dec_le _), toNat_ofNat_byte (bcd2dec_le _),
    toNat_ofNat_byte (bcd2dec_le _), Nat.mod_eq_of_lt hyear⟩

/-- What READ decodes lies in the ranges of 30_encoding.md R87. -/
theorem decodeBlock_inRange (b : TimeBlock) : TimeFieldsInRange (decodeBlock b) := by
  obtain ⟨hsec, hmin, hhour, hweekday, hday, hmonth, hyear⟩ := decodeBlock_toNat b
  have hle := bcd2dec_le b.year
  rw [TimeFieldsInRange, hsec, hmin, hhour, hweekday, hday, hmonth, hyear]
  exact ⟨secsOf_le _, bcd2dec_le _, hoursOf_le _, bcd2dec_le _, bcd2dec_le _, bcd2dec_le _, by omega, by omega⟩

/-- However a command ends, TF_OUT holds what it held, which a failed READ finds empty, or fields that READ decoded. -/
theorem ending_inv (hs : s.Inv) {p : Bool} (h : Ending s p t) : t.Inv := by
  cases h with
  | code c hread =>
    exact State.AtRest.inv ⟨rfl, rfl, rfl⟩ rfl hs.valid (fun hc => hs.noFields (.inr (.inl (hread hc)))) hs.fields hs.chip
  | fields b =>
    refine State.AtRest.inv ⟨rfl, rfl, rfl⟩ rfl rfl (fun hc => hc.elim nofun nofun) (fun v hv => ?_) hs.chip
    cases hv
    rw [TimeFields.unpack_pack]
    exact decodeBlock_inRange b
  | result r =>
    exact State.AtRest.inv ⟨rfl, rfl, rfl⟩ rfl hs.valid (fun hc => hc.elim nofun nofun) hs.fields hs.chip

theorem respond_inv (hs : s.Inv) {r : Response} (h : respond r s = .next t) : t.Inv := by
  rcases respond_cases h with hend | ⟨-, f, q, hd, rfl⟩
  · exact ending_inv hs hend
  · exact dataStep_inv hs hd

theorem answerRequest_inv (hs : s.Inv) {d : Answer} (h : answerRequest d s = .next t) : t.Inv := by
  obtain ⟨q, -, hr⟩ := answerRequest_next h
  have hserved : (serve q d s).2.Inv := hs.congr (State.sequencer_serve q d s) (serve_addrs q d s)
  exact respond_inv hserved hr

/-- Block reset meets the invariant from any state with the chip's eight registers. -/
theorem blockReset_inv (hchip : Memory.addrs s.chip = [0, 1, 2, 3, 4, 5, 6, 7]) : s.blockReset.Inv where
  request := ⟨rfl, rfl⟩
  inFlight hb := absurd rfl hb
  untouched _ _ := ⟨rfl, rfl⟩
  present hdata := by cases hdata
  valid := rfl
  noFields _ := rfl
  noResult _ := rfl
  fields _ hv := by cases hv
  chip := hchip

theorem resetMove_inv (hs : s.Inv) (k : Nat) (p : Byte) : (resetMove k p s).Inv := by
  unfold resetMove
  split
  · exact blockReset_inv hs.chip
  · exact blockReset_inv ((serve_addrs _ _ _).trans hs.chip)

/-- Every act that goes on keeps the invariant. -/
theorem perform_inv (hs : s.Inv) {m : Move} (h : perform m s = .next t) : t.Inv := by
  cases m with
  | access a => exact performAccess_inv hs h
  | hostRuns => exact hostStatement_inv hs h
  | answer d => exact answerRequest_inv hs h
  | tick b =>
    cases h
    obtain ⟨m, hm, htick⟩ := chipTick_only b s
    rw [htick]
    exact hs.congr rfl hm
  | otherMaster cells p => cases h; exact hs.congr rfl (Memory.addrs_writeCells _ _)
  | reset k p => cases h; exact resetMove_inv hs k p

theorem State.Inv.withMoves (hs : s.Inv) (ms : List Move) : State.Inv { s with moves := ms } := hs.congr rfl rfl

theorem step_inv (hs : s.Inv) (h : step s = .next t) : t.Inv := by
  rcases step_cases h with ⟨-, rfl⟩ | ⟨m, rest, -, hp⟩
  · exact hs
  · exact perform_inv (hs.withMoves rest) hp

/-- Settles O3: by the act the step performs; a command keeps the invariant in each form it can issue or end in, every other
act leaves the sequencer's half or resets it, and none changes which registers the chip has. -/
theorem stepKeepsInvariant : Obligations.StepKeepsInvariant :=
  ⟨fun _ _ hs h => step_inv hs h, fun _ _ hs hptr hno h => step_pointerSet hs.request hptr hno h⟩

/-! ### Progress -/

/-- A busy sequencer has its request outstanding (10_state.md R23). -/
theorem State.requestFits.outstanding (hs : s.requestFits) (hb : s.fsm ≠ .idle) : ∃ q, s.req = some q := by
  cases hf : s.fsm <;> simp only [State.requestFits, hf] at hs
  case idle => exact absurd hf hb
  case rdPtr | irPtr | gcPtr | rdData | irData | gcData => exact ⟨_, hs.1⟩
  case wrP1 => obtain ⟨e, fields, -, hq, -⟩ := hs; exact ⟨_, hq⟩
  case wrP2 => obtain ⟨e, hq, -⟩ := hs; exact ⟨_, hq⟩
  case scWr => obtain ⟨c, -, hq, -⟩ := hs; exact ⟨_, hq⟩

theorem answerRequest_busy (hs : s.requestFits) (hb : s.fsm ≠ .idle) (d : Answer) : ∃ t, answerRequest d s = .next t := by
  obtain ⟨q, hq⟩ := hs.outstanding hb
  exact answerRequest_goesOn hs hq d

/-- Settles O39: a busy sequencer has a request outstanding, and a row for each response it admits. -/
theorem everyAnswerIsAccepted : Obligations.EveryAnswerIsAccepted := by
  intro s d rest hs hb hm
  rw [step_move hm]
  exact answerRequest_busy (s := { s with moves := rest }) hs.request hb d

theorem portWrite_goesOn (n : Nat) (v : Word64) (s : State) : ∃ t, portWrite n v s = .next t := by
  unfold portWrite writeCmd
  split
  · split
    · exact exec_goesOn _ s
    · exact ⟨_, rfl⟩
  all_goals exact ⟨_, rfl⟩

theorem portRead_goesOn (n : Nat) (s : State) : ∃ t, portRead n s = .next t := by
  unfold portRead
  split
  · exact ⟨_, rfl⟩
  · exact ⟨_, rfl⟩
  · split <;> exact ⟨_, rfl⟩

theorem performAccess_goesOn (a : Access) (s : State) : ∃ t, performAccess a s = .next t := by
  cases a with
  | write n v => exact portWrite_goesOn n v s
  | read n => exact portRead_goesOn n s

theorem hostStatement_goesOn (s : State) : ∃ t, hostStatement s = .next t := by
  unfold hostStatement
  split
  · exact ⟨_, rfl⟩
  · exact performAccess_goesOn _ _
  · exact ⟨_, rfl⟩

/-- Settles O51: of the acts only an answer can stop, and a busy sequencer has a row for every answer. What goes on where the
spec faults, refuses or is silent is the model's reading and choice (logs 1, 2, 15, 17). -/
theorem everyActGoesOn : Obligations.EveryActGoesOn := by
  refine ⟨exec_goesOn, fun s hs hno => ?_⟩
  cases hm : s.moves with
  | nil => exact ⟨s, step_wait hm⟩
  | cons m rest =>
    rw [step_move hm]
    cases m with
    | access a => exact performAccess_goesOn a _
    | hostRuns => exact hostStatement_goesOn _
    | answer d =>
      have hb : s.fsm ≠ .idle := fun hi => hno hi d (by rw [hm]; rfl)
      exact answerRequest_busy (s := { s with moves := rest }) hs.request hb d
    | tick b => exact ⟨_, rfl⟩
    | otherMaster cells p => exact ⟨_, rfl⟩
    | reset k p => exact ⟨_, rfl⟩

/-! ### Completion -/

theorem State.Finished.registers (h : t.Finished) : t.fsm = .idle ∧ t.done = true ∧ t.req = none ∧ t.latSec = none := by
  obtain ⟨u, c, rfl⟩ := h
  exact ⟨rfl, rfl, rfl, rfl⟩

/-- An answer finishes the command, or its data step is in flight. -/
theorem answerRequest_progress {d : Answer} (h : answerRequest d s = .next t) :
    t.Finished ∨ DataStepAfter s.fsm t.fsm := by
  obtain ⟨q, -, hr⟩ := answerRequest_next h
  refine (respond_next hr).imp_right fun ⟨_, f, q', hd, ht⟩ => ?_
  rw [State.dataStep_serve] at hd
  rw [ht]
  exact State.dataStep_after hd

/-- Settles O38: of the acts only an answer or a reset moves a busy sequencer, and an answer that leaves it IDLE finishes. -/
theorem finishReturnsToIdle : Obligations.FinishReturnsToIdle := by
  intro s t hb h hidle
  rcases onlyAnswersMoveBusySequencer s t hb h with ⟨hf, -⟩ | ⟨d, rest, hm⟩ | hreset
  · exact absurd (hf.symm.trans hidle) hb
  · rw [step_move hm] at h
    rcases answerRequest_progress (s := { s with moves := rest }) h with hfin | hdata
    · exact .inr ⟨⟨d, rest, hm⟩, hfin.registers.2⟩
    · exact absurd hidle hdata.after_busy
  · exact .inl hreset

theorem answerRequest_moves {d : Answer} (h : answerRequest d s = .next t) : t.moves = s.moves := by
  obtain ⟨q, -, hr⟩ := answerRequest_next h
  have hmoves : t.moves = (serve q d s).2.moves := (congrArg State.moves (respond_outside hr) :)
  rw [hmoves, serve_moves]

/-- A run is a step and then a run of the rest. -/
theorem run_succ {k : Nat} (h : step s = .next t) : Sys2Proof.core.run (k + 1) s = Sys2Proof.core.run k t := by
  have hstep : Sys2Proof.core.step s = .next t := h
  simp only [Host.Core.run, hstep]

/-- Under the invariant an answer to a busy state takes a step that keeps it. -/
theorem step_answer (hs : s.Inv) (hb : s.fsm ≠ .idle) {d : Answer} {rest : List Move} (hm : s.moves = .answer d :: rest) :
    ∃ t, step s = .next t ∧ t.Inv ∧ t.moves = rest ∧ (t.Finished ∨ DataStepAfter s.fsm t.fsm) := by
  obtain ⟨t, ht⟩ := answerRequest_busy (s := { s with moves := rest }) hs.request hb d
  have hstep : step s = .next t := (step_move hm).trans ht
  exact ⟨t, hstep, step_inv hs hstep, answerRequest_moves ht,
    answerRequest_progress (s := { s with moves := rest }) ht⟩

/-- Settles O40: the first answer finishes the command or leaves it in a data step, which no data step follows. -/
theorem commandsFinishInTwoAnswers : Obligations.CommandsFinishInTwoAnswers := by
  intro s d1 d2 rest hs hb hm
  obtain ⟨t, hstep, ht, htm, hfin | hdata⟩ := step_answer hs hb hm
  · obtain ⟨hidle, hdone, -⟩ := hfin.registers
    exact ⟨1, t, le_rfl, by decide, run_succ hstep, hidle, hdone, ht⟩
  · have htb : t.fsm ≠ .idle := hdata.after_busy
    obtain ⟨u, hstep', hu, -, hfin | hdata'⟩ := step_answer ht htb htm
    · obtain ⟨hidle, hdone, -⟩ := hfin.registers
      exact ⟨2, u, by decide, le_rfl, (run_succ hstep).trans (run_succ hstep'), hidle, hdone, hu⟩
    · have hfirst := hdata'.first
      rw [hdata.data] at hfirst
      cases hfirst

/-! ### The five transactions -/

theorem haltBit_eq_one_iff (b : Byte) : haltBit b = 1#1 ↔ 128 ≤ b.toNat := by
  have hlt := b.isLt
  rw [← BitVec.toNat_inj, haltBit_toNat]
  simp only [BitVec.toNat_ofNat]
  omega

/-- Fewer than seven bytes: a short read, whatever the first byte is (41_transactions.md R165). -/
theorem respond_rdData_short (hf : s.fsm = .rdData) {bs : List Byte} (h : bs.length < 7) :
    respond (.bytes bs) s = .next (ended s s.chipPresence .shortRead) := by
  have hnone : TimeBlock.ofBytes bs = none := (TimeBlock.ofBytes_none_iff bs).2 h
  have hp : presenceAfter Config.timeLen (.bytes bs) s.chipPresence = s.chipPresence := presenceAfter_short h _
  simp only [respond, hf, stepRdData, readResponse, readOutcome, hnone, State.presence, hp]
  rfl

/-- Seven bytes or more: the halt bit decides (41_transactions.md R165). -/
theorem respond_rdData_full (hf : s.fsm = .rdData) {bs : List Byte} {b : TimeBlock} (hb : TimeBlock.ofBytes bs = some b) :
    respond (.bytes bs) s = .next (if haltBit b.seconds = 1#1 then ended s true .clockHalted
      else { ended s true .ok with tfOut := some (decodeBlock b).pack, tfv := true }) := by
  have hlen : 7 ≤ bs.length := by
    by_contra hlt
    rw [(TimeBlock.ofBytes_none_iff bs).2 (by omega)] at hb
    cases hb
  have hp : presenceAfter Config.timeLen (.bytes bs) s.chipPresence = true := presenceAfter_full hlen _
  simp only [respond, hf, stepRdData, readResponse, readOutcome, hb, State.presence, hp]
  rfl

/-- Settles O19: READ's own steps, and its fields as numbers; the seconds byte of a running clock has bit 7 clear. -/
theorem readTransaction : Obligations.ReadTransaction := by
  refine ⟨decode_encode .read, fun s hi => ?_, fun s hf => ?_, fun s hf => ⟨?_, fun bs hlt => ?_, ?_⟩⟩
  · rw [exec, execRead, issueN_idle hi]; rfl
  · constructor <;> rw [respond, hf] <;> rfl
  · rw [respond, hf]; rfl
  · exact respond_rdData_short hf hlt
  · intro b0 b1 b2 b3 b4 b5 b6 more
    have hfull := respond_rdData_full (bs := b0 :: b1 :: b2 :: b3 :: b4 :: b5 :: b6 :: more) hf rfl
    refine ⟨fun hhalt => ?_, fun hrun => ?_⟩
    · rw [hfull, if_pos ((haltBit_eq_one_iff b0).2 hhalt)]
    · obtain ⟨hsec, hmin, hhour, hweekday, hday, hmonth, hyear⟩ := decodeBlock_toNat ⟨b0, b1, b2, b3, b4, b5, b6⟩
      have hne : ¬ haltBit b0 = 1#1 := fun h => by have := (haltBit_eq_one_iff b0).1 h; omega
      rw [secsOf_eq, Nat.mod_eq_of_lt hrun] at hsec
      rw [hoursOf_eq] at hhour
      rw [bcd2dec_eq] at hmin hweekday hday hmonth hyear
      exact ⟨_, hsec, hmin, hhour, hweekday, hday, hmonth, hyear, by rw [hfull, if_neg hne]⟩

theorem extractLsb'_eq_fieldByte (v : Word64) (i : Nat) : (v.extractLsb' (8 * i) 8).toNat = fieldByte v i := by
  rw [BitVec.extractLsb'_toNat, Nat.shiftRight_eq_div_pow, fieldByte]

/-- The fields of TF_IN as numbers (30_encoding.md R87). -/
theorem unpack_toNat (v : Word64) :
    (TimeFields.unpack v).second.toNat = fieldByte v 0 ∧ (TimeFields.unpack v).minute.toNat = fieldByte v 1 ∧
    (TimeFields.unpack v).hour.toNat = fieldByte v 2 ∧ (TimeFields.unpack v).weekday.toNat = fieldByte v 3 ∧
    (TimeFields.unpack v).day.toNat = fieldByte v 4 ∧ (TimeFields.unpack v).month.toNat = fieldByte v 5 ∧
    (TimeFields.unpack v).year.toNat = v.toNat / 2 ^ 48 := by
  have hyear : (v.extractLsb' 48 16).toNat = v.toNat / 2 ^ 48 := by
    have hlt := v.isLt
    rw [BitVec.extractLsb'_toNat, Nat.shiftRight_eq_div_pow]
    omega
  exact ⟨extractLsb'_eq_fieldByte v 0, extractLsb'_eq_fieldByte v 1, extractLsb'_eq_fieldByte v 2,
    extractLsb'_eq_fieldByte v 3, extractLsb'_eq_fieldByte v 4, extractLsb'_eq_fieldByte v 5, hyear⟩

/-- The image of WRITE's two phases by plain arithmetic (41_transactions.md R163). -/
theorem assembleBlock_unpack (d : Nat) (v : Word64) : assembleBlock d (TimeFields.unpack v) =
    ([bcdByte d (fieldByte v 0) ||| 0x80#8, bcdByte (d + 1) (fieldByte v 1), bcdByte (d + 2) (fieldByte v 2),
      bcdByte (d + 3) (fieldByte v 3), bcdByte (d + 4) (fieldByte v 4), bcdByte (d + 5) (fieldByte v 5),
      bcdByte (d + 6) (yearField (d + 6) (v.toNat / 2 ^ 48))], bcdByte d (fieldByte v 0) &&& 0x7F#8) := by
  obtain ⟨hsec, hmin, hhour, hweekday, hday, hmonth, hyear⟩ := unpack_toNat v
  simp only [assembleBlock, dec2bcd_eq_bcdByte, fieldFromYear_eq_yearField, hsec, hmin, hhour, hweekday, hday, hmonth, hyear]

/-- Phase 1 answered `Ok` sends the latched byte (41_transactions.md R166). -/
theorem stepWrP1_ok {b : Byte} (hb : s.latSec = some b) : stepWrP1 .ok s =
    .next ((s.presence 0 .ok).send .wrP2 (.blockWrite Config.devAddr Config.timeBase [b])) := by
  simp only [stepWrP1, writeResponse, State.presence_latSec, hb]

/-- Settles O20: WRITE's own steps, both seconds bytes from one BCD value. -/
theorem writeTransaction : Obligations.WriteTransaction := by
  refine ⟨decode_encode .write, fun s v hi hv => ⟨_, rfl, ?_⟩, fun s hi hv => ?_, fun s hf => ⟨?_, fun b hb => ?_⟩,
    fun s hf => ?_⟩
  · rw [exec, execWrite, issueT_some hi hv, assembleBlock_unpack]; rfl
  · exact exec_formT_none rfl hi hv
  · rw [respond, hf]; rfl
  · rw [respond, hf]; exact stepWrP1_ok hb
  · constructor <;> rw [respond, hf] <;> rfl

/-- TriState from the halt bit (30_encoding.md R86). -/
theorem haltBit_setWidth (b : Byte) : (haltBit b).setWidth 16 = if 128 ≤ b.toNat then 0x0001#16 else 0x0000#16 := by
  revert b
  decide

/-- Settles O21: ISRUNNING's own steps; a byte is a full read. -/
theorem isrunningTransaction : Obligations.IsrunningTransaction := by
  refine ⟨decode_encode .isrunning, fun s hi => ?_, fun s hf => ?_, fun s hf => ⟨?_, ?_, fun b more => ?_⟩⟩
  · rw [exec, execIsrunning, issueN_idle hi]; rfl
  · constructor <;> rw [respond, hf] <;> rfl
  · rw [respond, hf]; rfl
  · rw [respond, hf]; rfl
  · rw [respond, hf, ← haltBit_setWidth]
    rfl

theorem exec_getcal_idle (hi : s.fsm = .idle) : exec .getcal s =
    .next ({ s.beginIssue with res := none }.send .gcPtr (.ptrWrite Config.devAddr Config.calAddr)) := by
  rw [exec, execGetcal, issueN_idle hi]

/-- Settles O22: GETCAL's own steps; a byte is a full read. -/
theorem getcalTransaction : Obligations.GetcalTransaction := by
  refine ⟨decode_encode .getcal, fun s hi => ?_, fun s hf => ?_, fun s hf => ⟨?_, ?_, fun b more => ?_⟩⟩
  · exact exec_getcal_idle hi
  · constructor <;> rw [respond, hf] <;> rfl
  · rw [respond, hf]; rfl
  · rw [respond, hf]; rfl
  · rw [respond, hf, ← calDecode_eq]
    rfl

/-- The calibration byte of a form-A operand, as the statements write it (40_codec.md R127). -/
theorem calEncode_operandI8 (a : Word16) : calEncode (operandI8 a) =
    BitVec.ofNat 8 ((if 0 ≤ (a.setWidth 8).toInt then 32 else 0) + (a.setWidth 8).toInt.natAbs % 32) := by
  rw [operandI8_eq_toInt, ← calEncode_toNat, BitVec.ofNat_toNat, BitVec.setWidth_eq]

theorem exec_setcal_some {a : Word16} (hi : s.fsm = .idle) (ha : s.arg = some a) : exec .setcal s =
    .next (s.beginIssue.send .scWr (.blockWrite Config.devAddr Config.calAddr [calEncode (operandI8 a)])) := by
  rw [exec, execSetcal, issueA_some hi ha]

/-- Settles O23: SETCAL's own steps. -/
theorem setcalTransaction : Obligations.SetcalTransaction := by
  refine ⟨decode_encode .setcal, fun s a hi ha => ?_, fun s hi ha => exec_formA_none rfl hi ha, fun s hf => ?_⟩
  · rw [exec_setcal_some hi ha, calEncode_operandI8]; rfl
  · constructor <;> rw [respond, hf] <;> rfl

/-! ### SETCAL then GETCAL -/

theorem step_command {c : Byte} {i : Instr} {rest : List Move} (hd : decode c = .ok i) (hm : s.moves = command c :: rest) :
    step s = exec i { s with moves := rest } := by
  have hcut : decode ((c.setWidth 64).setWidth 8) = .ok i := by simpa using hd
  exact stepRunsCommand.1 s _ i rest hm hcut

/-- An answer with this response is the sequencer's step at it, in the state the chip's part leaves. -/
theorem step_served {q : Request} {d : Answer} {rest : List Move} {r : Response} {u : State}
    (hm : s.moves = .answer d :: rest) (hq : s.req = some q) (hserve : serve q d { s with moves := rest } = (r, u)) : step s = respond r u := by
  rw [answerRunsSequencer.1 s d q rest hm hq, hserve]

theorem step_setcal {a : Word16} {rest : List Move} (hi : s.fsm = .idle) (ha : s.arg = some a)
    (hm : s.moves = command 0x05#8 :: rest) :
    ∃ t, step s = .next t ∧ t.fsm = .scWr ∧ t.req = some (.blockWrite 0x68#8 0x07#8 [calEncode (operandI8 a)]) ∧
      t.moves = rest ∧ t.chip = s.chip := by
  have hissue := (step_command (decode_encode .setcal) hm).trans (exec_setcal_some hi ha)
  exact ⟨_, hissue, rfl, rfl, rfl, rfl⟩

/-- The acknowledged write of SETCAL lands and ends the command. -/
theorem step_scWr_success {start p : Byte} {bs : List Byte} {is : List ReadInstant} {rest : List Move}
    (hf : s.fsm = .scWr) (hq : s.req = some (.blockWrite 0x68#8 start bs)) (hm : s.moves = .answer (.success is p) :: rest) :
    ∃ t, step s = .next t ∧ t.fsm = .idle ∧ t.moves = rest ∧ t.chip = s.chip.writeBytes start.toNat bs := by
  have hserved := step_served hm hq rfl
  exact ⟨_, hserved.trans (setcalTransaction.2.2.2 _ (by exact hf)).2, rfl, rfl, rfl⟩

theorem step_getcal {rest : List Move} (hi : s.fsm = .idle) (hm : s.moves = command 0x04#8 :: rest) :
    ∃ t, step s = .next t ∧ t.fsm = .gcPtr ∧ t.req = some (.ptrWrite 0x68#8 0x07#8) ∧ t.moves = rest ∧ t.chip = s.chip := by
  have hissue := (step_command (decode_encode .getcal) hm).trans (exec_getcal_idle hi)
  exact ⟨_, hissue, rfl, rfl, rfl, rfl⟩

/-- The acknowledged pointer write of GETCAL: its data step waits with the pointer set. -/
theorem step_gcPtr_success {reg p : Byte} {is : List ReadInstant} {rest : List Move} (hf : s.fsm = .gcPtr)
    (hq : s.req = some (.ptrWrite 0x68#8 reg)) (hm : s.moves = .answer (.success is p) :: rest) :
    ∃ t, step s = .next t ∧ t.fsm = .gcData ∧ t.req = some (.blockRead 0x68#8 1) ∧ t.moves = rest ∧ t.chip = s.chip ∧
      t.chipPtr = reg := by
  have hserved := step_served hm hq rfl
  exact ⟨_, hserved.trans (getcalTransaction.2.2.1 _ (by exact hf)).2, rfl, rfl, rfl, rfl, rfl⟩

/-- A successful BlockRead answers the bytes read from the pointer on (20_memory.md R59 item 3). -/
theorem serve_blockRead_bytes (n : Nat) (is : List ReadInstant) (p : Byte) (s : State) :
    (serve (.blockRead 0x68#8 n) (.success is p) s).1 = .bytes (readChip s.chipPtr.toNat is s).1 := rfl

/-- One byte read at register 0x07 is the calibration register, whatever tick comes before it (20_memory.md R59 item 4). -/
theorem readChip_calibration {b : Byte} (i : ReadInstant) (h : s.chip.read 7 = some b) :
    (readChip 7 [i] s).1 = [b] := by
  have hread : (s.tickBefore i).chip.read 7 = some b := (State.tickBefore_read_above i s le_rfl).trans h
  simp [readChip, hread]

/-- The data step of GETCAL, answered with the calibration register. -/
theorem step_gcData_success {b p : Byte} {i : ReadInstant} {rest : List Move} (hf : s.fsm = .gcData)
    (hq : s.req = some (.blockRead 0x68#8 1)) (hptr : s.chipPtr = 0x07#8) (hcal : s.chip.read 7 = some b)
    (hm : s.moves = .answer (.success [i] p) :: rest) :
    ∃ t, step s = .next t ∧ t.fsm = .idle ∧ t.chipPresence = true ∧ t.res = some (BitVec.ofInt 16 (calDecode b)) := by
  have hserve : (serve (.blockRead 0x68#8 1) (.success [i] p) { s with moves := rest }).1 = .bytes [b] := by
    rw [serve_blockRead_bytes, hptr]
    exact congrArg Response.bytes (readChip_calibration i hcal)
  have hserved := step_served hm hq (Prod.ext hserve rfl)
  have hstep := hserved.trans ((getcalTransaction.2.2.2 _ (by simp [hf])).2.2 b [])
  rw [← calDecode_eq] at hstep
  exact ⟨_, hstep, rfl, rfl, rfl⟩

/-- Settles O50: SETCAL leaves its byte in register 0x07, which no tick reaches, and GETCAL reads and decodes it there. That ARG
takes the low 16 bits of a value too wide for it is the model's choice (log 16). -/
theorem calibrationRoundTrip : Obligations.CalibrationRoundTrip := by
  intro s a is p1 p2 p3 rest hs hi hlen hm
  obtain ⟨i, rfl⟩ := List.length_eq_one_iff.1 hlen
  have hwrite := operandPortsAlwaysWritable.1 s a _ hm
  obtain ⟨t₁, hset, hf₁, hq₁, hm₁, hc₁⟩ := step_setcal (s := { s with moves := _, arg := some (a.setWidth 16) }) hi rfl rfl
  obtain ⟨t₂, hland, hf₂, hm₂, hc₂⟩ := step_scWr_success hf₁ hq₁ hm₁
  obtain ⟨t₃, hget, hf₃, hq₃, hm₃, hc₃⟩ := step_getcal hf₂ hm₂
  obtain ⟨t₄, hpoint, hf₄, hq₄, hm₄, hc₄, hptr⟩ := step_gcPtr_success hf₃ hq₃ hm₃
  have hcal : t₄.chip.read 7 = some (calEncode (operandI8 (a.setWidth 16))) := by
    rw [hc₄, hc₃, hc₂, hc₁]
    exact Memory.read_write_same _ _ _ (hs.mem_addrs (by decide))
  obtain ⟨t₅, hdata, hidle, hp, hres⟩ := step_gcData_success hf₄ hq₄ hptr hcal hm₄
  have hrun : Sys2Proof.core.run 6 s = .next t₅ := by
    rw [run_succ hwrite, run_succ hset, run_succ hland, run_succ hget, run_succ hpoint, run_succ hdata]
    rfl
  have hcut : ((a.setWidth 16).setWidth 8 : Byte) = a.setWidth 8 := by simp
  refine ⟨t₅, hrun, hidle, hp, ?_⟩
  rw [hres, operandI8_eq_toInt, calDecode_calEncode, hcut]

end Sys2Proof.Machine
end

section
/-! PROOF. The family of 60_exceptions.md: how the first request of a transport command fails, and why a result of GETCAL is
never its sentinel. -/

namespace Sys2Proof.Machine

open Sys2Proof.Claims

variable {s t : State}

/-! ### The failed first request -/

/-- How an `Err` to the first request ends a transport command: P cleared, and the failure told by RES in ISRUNNING and
GETCAL, by CODE in the others (60_exceptions.md R221, R223). -/
def firstFailure : Instr → State → State
  | .isrunning, s => { ended s false .none with res := some 0x0002#16 }
  | .getcal, s => { ended s false .none with res := some Config.calSentinel }
  | _, s => ended s false .busErr

theorem respond_err_first {i : Instr} (hi : i ∈ transport) (hf : t.fsm = firstState i) :
    respond .err t = .next (firstFailure i t) := by
  cases i with
  | chippresent | hoursdec | bcdenc | bcddec | yeardec | yearenc | haltext | calenc | caldec => simp [transport] at hi
  | read | write | isrunning | getcal | setcal => rw [respond, hf]; rfl

/-- Whatever the command, its first failure leaves it finished without the chip (41_transactions.md R161, R162). -/
theorem firstFailure_finished (i : Instr) (s : State) :
    (firstFailure i s).chipPresence = false ∧ (firstFailure i s).fsm = .idle ∧ (firstFailure i s).done = true := by
  cases i <;> exact ⟨rfl, rfl, rfl⟩

theorem firstFailure_code (i : Instr) (s : State) :
    (firstFailure i s).code = if i = .isrunning ∨ i = .getcal then .none else .busErr := by
  cases i <;> rfl

/-- A transport command that passes the checks of its issue sends its first request (41_transactions.md R160). -/
theorem exec_launched {i : Instr} (hi : i ∈ transport) (hidle : s.fsm = .idle) (hready : operandReady i s) :
    ∃ q sec2 n, exec i s = .next (launched i q sec2 n s) := by
  obtain ⟨t, ht⟩ := exec_goesOn i s
  rcases exec_transport hi ht with ⟨-, q, sec2, n, rfl⟩ | ⟨haway, -⟩
  · exact ⟨q, sec2, n, ht⟩
  · exact Or.elim haway (absurd hidle) (absurd hready)

/-- Settles O42: the command sends, and the `Err` ends it by its first failure; READ emptied TF_OUT when it issued. -/
theorem firstFailureClearsPresence : Obligations.FirstFailureClearsPresence := by
  intro i s hi hidle hready
  obtain ⟨q, sec2, n, hissue⟩ := exec_launched hi hidle hready
  obtain ⟨hp, hfsm, hdone⟩ := firstFailure_finished i (launched i q sec2 n s)
  refine ⟨_, _, hissue, respond_err_first hi rfl, hp, hfsm, hdone, firstFailure_code i _, ?_, ?_, ?_⟩
  · rintro rfl; rfl
  · rintro rfl; rfl
  · rintro rfl; exact ⟨rfl, rfl⟩

/-! ### The sentinel of GETCAL -/

/-- Five bits of magnitude and a sign (40_codec.md R128). -/
theorem calDecode_bounds (b : Byte) : -31 ≤ calDecode b ∧ calDecode b ≤ 31 := by
  rw [calDecode_eq]
  split <;> omega

/-- The sentinel is the number 64, which the range of `calDecode` leaves out (60_exceptions.md R221). -/
theorem ofInt_ne_calSentinel {c : Int} (hlo : -31 ≤ c) (hhi : c ≤ 31) : BitVec.ofInt 16 c ≠ Config.calSentinel := by
  intro h
  have hint : (BitVec.ofInt 16 c).toInt = c := BitVec.toInt_ofInt_eq_self (by decide) (by omega) (by omega)
  have hsentinel : Config.calSentinel.toInt = 64 := by decide
  rw [h, hsentinel] at hint
  omega

/-- The data step of GETCAL on a full read: the first byte decoded, a surplus ignored (41_transactions.md R168). -/
theorem respond_gcData_full (hf : s.fsm = .gcData) (b : Byte) (more : List Byte) : respond (.bytes (b :: more)) s =
    .next { ended s true .none with res := some (BitVec.ofInt 16 (calDecode b)) } := by
  obtain ⟨-, -, -, hdata⟩ := getcalTransaction
  obtain ⟨-, -, hbytes⟩ := hdata s hf
  rw [hbytes, calDecode_eq]

/-- Settles O43: the result is the decoded byte, and no decoded byte is the sentinel. -/
theorem sentinelMarksFailure : Obligations.SentinelMarksFailure := by
  intro s b more hf
  obtain ⟨hlo, hhi⟩ := calDecode_bounds b
  exact ⟨_, calDecode b, respond_gcData_full hf b more, hlo, hhi, rfl, mt Option.some.inj (ofInt_ne_calSentinel hlo hhi)⟩

end Sys2Proof.Machine
end

section
/-! PROOF. The family of 70_reset_and_hazards.md: that a command in flight does not see its operand ports, that READ gives
back what WRITE wrote, and that ISRUNNING finds out a failed phase 2 of WRITE. -/

namespace Sys2Proof.Machine

open Sys2Proof.Claims

variable {s t : State}

/-! ### Operands are latched at issue -/

/-- The state with these values in ARG and TF_IN. -/
def State.withOperands (a : Option Word16) (v : Option Word64) (s : State) : State := { s with arg := a, tfIn := v }

/-- A response commutes with a write of the operand ports where the state's own actions do. -/
theorem writeResponse_withOperands {onOk : State → Result} {onErr : State → State} (r : Response) (a : Option Word16)
    (v : Option Word64) (s : State)
    (hOk : ∀ u : State, onOk (u.withOperands a v) = mapNext (State.withOperands a v) (onOk u))
    (hErr : ∀ u : State, onErr (u.withOperands a v) = (onErr u).withOperands a v) :
    writeResponse onOk onErr r (s.withOperands a v) = mapNext (State.withOperands a v) (writeResponse onOk onErr r s) := by
  cases r with
  | ok => exact hOk (s.presence 0 .ok)
  | err => exact congrArg Host.Outcome.next (hErr (s.presence 0 .err))
  | bytes bs => rfl

theorem readResponse_withOperands {n : Nat} {onBytes : List Byte → State → State} {onErr : State → State} (r : Response)
    (a : Option Word16) (v : Option Word64) (s : State)
    (hBytes : ∀ bs (u : State), onBytes bs (u.withOperands a v) = (onBytes bs u).withOperands a v)
    (hErr : ∀ u : State, onErr (u.withOperands a v) = (onErr u).withOperands a v) :
    readResponse n onBytes onErr r (s.withOperands a v) =
      mapNext (State.withOperands a v) (readResponse n onBytes onErr r s) := by
  cases r with
  | ok => rfl
  | err => exact congrArg Host.Outcome.next (hErr (s.presence n .err))
  | bytes bs => exact congrArg Host.Outcome.next (hBytes bs (s.presence n (.bytes bs)))

theorem readOutcome_withOperands (a : Option Word16) (v : Option Word64) (bs : List Byte) (u : State) :
    readOutcome bs (u.withOperands a v) = (readOutcome bs u).withOperands a v := by
  unfold readOutcome
  split
  · rfl
  · split <;> rfl

theorem isrunningOutcome_withOperands (a : Option Word16) (v : Option Word64) (bs : List Byte) (u : State) :
    isrunningOutcome bs (u.withOperands a v) = (isrunningOutcome bs u).withOperands a v := by
  cases bs <;> rfl

theorem getcalOutcome_withOperands (a : Option Word16) (v : Option Word64) (bs : List Byte) (u : State) :
    getcalOutcome bs (u.withOperands a v) = (getcalOutcome bs u).withOperands a v := by
  cases bs <;> rfl

/-- Phase 2 sends the latched byte, not a field of TF_IN (10_state.md R22). -/
theorem stepWrP1_withOperands (r : Response) (a : Option Word16) (v : Option Word64) (s : State) :
    stepWrP1 r (s.withOperands a v) = mapNext (State.withOperands a v) (stepWrP1 r s) := by
  refine writeResponse_withOperands r a v s (fun u => ?_) fun _ => rfl
  have hlatch : (u.withOperands a v).latSec = u.latSec := rfl
  cases hl : u.latSec <;> simp only [hlatch, hl] <;> rfl

/-- Settles O36: each row of the sequencer commutes with the write, since none of its actions reads ARG or TF_IN. -/
theorem operandsLatchedAtIssue : Obligations.OperandsLatchedAtIssue := by
  intro s r a v
  change respond r (s.withOperands a v) = mapNext (State.withOperands a v) (respond r s)
  have hfsm : (s.withOperands a v).fsm = s.fsm := rfl
  simp only [respond, hfsm]
  cases s.fsm with
  | idle => rfl
  | rdPtr | wrP2 | irPtr | gcPtr | scWr => exact writeResponse_withOperands r a v s (fun _ => rfl) fun _ => rfl
  | wrP1 => exact stepWrP1_withOperands r a v s
  | rdData => exact readResponse_withOperands r a v s (readOutcome_withOperands a v) fun _ => rfl
  | irData => exact readResponse_withOperands r a v s (isrunningOutcome_withOperands a v) fun _ => rfl
  | gcData => exact readResponse_withOperands r a v s (getcalOutcome_withOperands a v) fun _ => rfl

/-! ### Runs of several steps -/

/-- A run that goes on can be followed by another. -/
theorem run_add {j : Nat} (h : Sys2Proof.core.run j s = .next t) (k : Nat) :
    Sys2Proof.core.run (j + k) s = Sys2Proof.core.run k t := by
  induction j generalizing s with
  | zero => cases h; rw [Nat.zero_add]
  | succ j ih =>
    cases hstep : step s with
    | next u =>
      rw [run_succ hstep] at h
      rw [Nat.succ_add, run_succ hstep, ih h]
    | fault r | refused r =>
      have hstop : Sys2Proof.core.step s = _ := hstep
      simp only [Host.Core.run, hstop] at h
      cases h

/-! ### A read of a chip that stands still -/

/-- A read without a change of the chip answers its registers from the pointer on (20_memory.md R57, R59 item 3). -/
theorem serve_blockRead_still {bs : List Byte} {is : List ReadInstant} (n : Nat) (p : Byte) (hlen : is.length = bs.length)
    (hstill : ∀ i ∈ is, s.tickBefore i = s) (hread : ∀ k < bs.length, s.chip.read (s.chipPtr.toNat + k) = bs[k]?) :
    serve (.blockRead 0x68#8 n) (.success is p) s = (.bytes bs, { s with chipPtr := p }) := by
  have hbytes : (is.mapIdx fun k i => (s.chip.read (s.chipPtr.toNat + k)).getD i.beyond) = bs := by
    refine List.ext_getElem (by simpa using hlen) fun k _ hk => ?_
    simp [hread k hk, hk]
  have hchip := readChip_still s.chipPtr.toNat is hstill
  rw [hbytes] at hchip
  change (Response.bytes (readChip s.chipPtr.toNat is s).1, { (readChip s.chipPtr.toNat is s).2 with chipPtr := p }) = _
  rw [hchip]

/-! ### The steps of WRITE, READ and ISRUNNING at an answering chip -/

/-- The first `Ok` of a command with a data step sends it (41_transactions.md R171). -/
theorem respond_ok_dataStep {f : Fsm} {q : Request} (hd : s.dataStep = some (f, q)) :
    respond .ok s = .next ((s.presence 0 .ok).send f q) := by
  cases hf : s.fsm <;> simp only [State.dataStep, hf] at hd <;> rw [respond, hf]
  case idle | rdData | wrP2 | irData | gcData | scWr => cases hd
  case rdPtr | irPtr | gcPtr => cases hd; rfl
  case wrP1 =>
    obtain ⟨sec2, hl, ⟨⟩⟩ := Option.map_eq_some_iff.1 hd
    exact stepWrP1_ok hl

/-- The acknowledged pointer write of a command: its data step waits with the pointer set. -/
theorem step_ptrWrite_success {f : Fsm} {q : Request} {reg p : Byte} {is : List ReadInstant} {rest : List Move}
    (hd : s.dataStep = some (f, q)) (hq : s.req = some (.ptrWrite 0x68#8 reg))
    (hm : s.moves = .answer (.success is p) :: rest) :
    ∃ t, step s = .next t ∧ t.fsm = f ∧ t.req = some q ∧ t.moves = rest ∧ t.chip = s.chip ∧ t.chipPtr = reg := by
  have hserved := step_served hm hq rfl
  exact ⟨_, hserved.trans (respond_ok_dataStep (by exact hd)), rfl, rfl, rfl, rfl, rfl⟩

/-- The acknowledged phase 1 of WRITE lands its image and sends the latched byte. -/
theorem step_wrP1_success {sec2 p : Byte} {bs : List Byte} {is : List ReadInstant} {rest : List Move} (hf : s.fsm = .wrP1)
    (hl : s.latSec = some sec2) (hq : s.req = some (.blockWrite 0x68#8 0x00#8 bs))
    (hm : s.moves = .answer (.success is p) :: rest) :
    ∃ t, step s = .next t ∧ t.fsm = .wrP2 ∧ t.req = some (.blockWrite 0x68#8 0x00#8 [sec2]) ∧ t.moves = rest ∧
      t.chip = s.chip.writeBytes 0 bs := by
  have hd : s.dataStep = some (.wrP2, .blockWrite 0x68#8 0x00#8 [sec2]) := by
    simp only [State.dataStep, hf, hl]; rfl
  have hserved := step_served hm hq rfl
  exact ⟨_, hserved.trans (respond_ok_dataStep (by exact hd)), rfl, rfl, rfl, rfl⟩

/-- The acknowledged phase 2 of WRITE lands its byte and ends the command. -/
theorem step_wrP2_success {p : Byte} {bs : List Byte} {is : List ReadInstant} {rest : List Move} (hf : s.fsm = .wrP2)
    (hq : s.req = some (.blockWrite 0x68#8 0x00#8 bs)) (hm : s.moves = .answer (.success is p) :: rest) :
    ∃ t, step s = .next t ∧ t.fsm = .idle ∧ t.moves = rest ∧ t.chip = s.chip.writeBytes 0 bs := by
  obtain ⟨-, -, -, -, hphase2⟩ := writeTransaction
  have hserved := step_served hm hq rfl
  exact ⟨_, hserved.trans (hphase2 _ (by exact hf)).2, rfl, rfl, rfl⟩

/-- Phase 2 of WRITE failed with nothing applied: BUSERR without the chip, whose registers stay. -/
theorem step_wrP2_unapplied {p : Byte} {bs : List Byte} {rest : List Move} (hf : s.fsm = .wrP2)
    (hq : s.req = some (.blockWrite 0x68#8 0x00#8 bs)) (hm : s.moves = .answer (.failure 0 p) :: rest) :
    ∃ t, step s = .next t ∧ t.fsm = .idle ∧ t.code = .busErr ∧ t.chipPresence = false ∧ t.moves = rest ∧
      t.chip = s.chip := by
  obtain ⟨-, -, -, -, hphase2⟩ := writeTransaction
  have hserved := step_served hm hq rfl
  exact ⟨_, hserved.trans (hphase2 _ (by exact hf)).1, rfl, rfl, rfl, rfl, rfl⟩

/-! ### WRITE then READ -/

/-- The chip's time registers after both phases of WRITE: the image of phase 1 with CH cleared (41_transactions.md R163). -/
def writtenBlock (d : Nat) (f : TimeFields) : TimeBlock where
  seconds := dec2bcd d f.second.toNat &&& 0x7F#8
  minutes := dec2bcd (d + 1) f.minute.toNat
  hours := dec2bcd (d + 2) f.hour.toNat
  weekday := dec2bcd (d + 3) f.weekday.toNat
  day := dec2bcd (d + 4) f.day.toNat
  month := dec2bcd (d + 5) f.month.toNat
  year := dec2bcd (d + 6) (fieldFromYear (d + 6) f.year)

/-- Time fields with equal numbers are equal. -/
theorem TimeFields.eq_of_toNat {f g : TimeFields} (hsec : f.second.toNat = g.second.toNat)
    (hmin : f.minute.toNat = g.minute.toNat) (hhour : f.hour.toNat = g.hour.toNat)
    (hweekday : f.weekday.toNat = g.weekday.toNat) (hday : f.day.toNat = g.day.toNat)
    (hmonth : f.month.toNat = g.month.toNat) (hyear : f.year.toNat = g.year.toNat) : f = g := by
  cases f
  cases g
  rw [BitVec.toNat_inj] at hsec hmin hhour hweekday hday hmonth hyear
  simp only [TimeFields.mk.injEq]
  exact ⟨hsec, hmin, hhour, hweekday, hday, hmonth, hyear⟩

/-- Decoding undoes encoding on chip-valid fields (40_codec.md R129 laws 1, 2, 6 and 7). -/
theorem decodeBlock_writtenBlock (d : Nat) {f : TimeFields} (h : TimeFieldsChipValid f) :
    decodeBlock (writtenBlock d f) = f := by
  obtain ⟨vsec, vmin, vhour, ⟨-, vweekday⟩, ⟨-, vday⟩, ⟨-, vmonth⟩, vlo, vhi⟩ := h
  obtain ⟨hsec, hmin, hhour, hweekday, hday, hmonth, hyear⟩ := decodeBlock_toNat (writtenBlock d f)
  apply TimeFields.eq_of_toNat
  · exact hsec.trans ((secsOf_and_run _).trans (secsOf_dec2bcd d (by omega)))
  · exact hmin.trans (bcd2dec_dec2bcd _ (by omega))
  · exact hhour.trans (hoursOf_dec2bcd _ vhour)
  · exact hweekday.trans (bcd2dec_dec2bcd _ (by omega))
  · exact hday.trans (bcd2dec_dec2bcd _ (by omega))
  · exact hmonth.trans (bcd2dec_dec2bcd _ (by omega))
  · exact hyear.trans (yearFromField_fieldFromYear _ _ vlo vhi)

/-- A byte written over the start of a block write leaves the rest of the block. -/
theorem Memory.read_writeBytes_overwritten (m : Memory) (a : Nat) (b c : Byte) (bs : List Byte) {k : Nat}
    (hk : k < (c :: bs).length) (hmem : a + k ∈ m.addrs) :
    ((m.writeBytes a (b :: bs)).writeBytes a [c]).read (a + k) = (c :: bs)[k]? := by
  cases k with
  | zero =>
    have hstart : a + 0 ∈ (m.writeBytes a (b :: bs)).addrs := by rwa [Memory.addrs_writeBytes]
    exact Memory.read_writeBytes_at _ a [c] 0 Nat.zero_lt_one hstart
  | succ k =>
    have hbeyond : a + [c].length ≤ a + (k + 1) := Nat.add_le_add_left (Nat.succ_le_succ k.zero_le) a
    rw [Memory.read_writeBytes_other _ _ _ [c] (.inr hbeyond), Memory.read_writeBytes_at m a (b :: bs) (k + 1) hk hmem]
    exact (List.getElem?_eq_getElem (l := bs) (Nat.lt_of_succ_lt_succ hk)).symm

/-- Both phases of WRITE landed leave the written block in the time registers. -/
theorem read_assembleBlock (m : Memory) (d : Nat) (f : TimeFields) {k : Nat} (hk : k < 7) (hmem : k ∈ m.addrs) :
    ((m.writeBytes 0 (assembleBlock d f).1).writeBytes 0 [(assembleBlock d f).2]).read k =
      (writtenBlock d f).toBytes[k]? := by
  have h := Memory.read_writeBytes_overwritten m 0 (dec2bcd d f.second.toNat ||| 0x80#8) (writtenBlock d f).seconds
    (writtenBlock d f).toBytes.tail hk (by rwa [Nat.zero_add])
  rwa [Nat.zero_add] at h

theorem step_writeTfIn {v : Word64} {rest : List Move} (hm : s.moves = .access (.write 4 v) :: rest) :
    ∃ t, step s = .next t ∧ t.tfIn = some v ∧ t.fsm = s.fsm ∧ t.moves = rest ∧ t.chip = s.chip :=
  ⟨_, operandPortsAlwaysWritable.2 s v rest hm, rfl, rfl, rfl, rfl⟩

theorem step_write {f : TimeFields} {rest : List Move} (hi : s.fsm = .idle) (hv : s.tfIn = some f.pack)
    (hm : s.moves = command 0x02#8 :: rest) :
    ∃ t, step s = .next t ∧ t.fsm = .wrP1 ∧ t.latSec = some (assembleBlock s.draws f).2 ∧
      t.req = some (.blockWrite 0x68#8 0x00#8 (assembleBlock s.draws f).1) ∧ t.moves = rest ∧ t.chip = s.chip := by
  have hissue := step_command (decode_encode .write) hm
  rw [exec, execWrite, issueT_some (by exact hi) (by exact hv), TimeFields.unpack_pack] at hissue
  exact ⟨_, hissue, rfl, rfl, rfl, rfl, rfl⟩

/-- WRITE with both requests acknowledged: the chip takes phase 1 and then phase 2 (41_transactions.md R166). -/
theorem run_write {f : TimeFields} {p1 p2 : Byte} {rest : List Move} (hi : s.fsm = .idle) (hv : s.tfIn = some f.pack)
    (hm : s.moves = command 0x02#8 :: .answer (.success [] p1) :: .answer (.success [] p2) :: rest) :
    ∃ t, Sys2Proof.core.run 3 s = .next t ∧ t.fsm = .idle ∧ t.moves = rest ∧
      t.chip = (s.chip.writeBytes 0 (assembleBlock s.draws f).1).writeBytes 0 [(assembleBlock s.draws f).2] := by
  obtain ⟨t₁, hissue, hf₁, hl₁, hq₁, hm₁, hc₁⟩ := step_write hi hv hm
  obtain ⟨t₂, hphase1, hf₂, hq₂, hm₂, hc₂⟩ := step_wrP1_success hf₁ hl₁ hq₁ hm₁
  obtain ⟨t₃, hphase2, hf₃, hm₃, hc₃⟩ := step_wrP2_success hf₂ hq₂ hm₂
  refine ⟨t₃, ?_, hf₃, hm₃, by rw [hc₃, hc₂, hc₁]⟩
  rw [run_succ hissue, run_succ hphase1, run_succ hphase2]
  rfl

/-- The data step of READ on a running chip that stands still: the fields of its registers (41_transactions.md R165). -/
theorem step_rdData_success {b : TimeBlock} {p : Byte} {is : List ReadInstant} {rest : List Move} (hf : s.fsm = .rdData)
    (hq : s.req = some (.blockRead 0x68#8 7)) (hptr : s.chipPtr = 0x00#8) (hlen : is.length = 7)
    (hstill : ∀ i ∈ is, i.tick = none) (hread : ∀ k < 7, s.chip.read k = b.toBytes[k]?) (hrun : haltBit b.seconds = 0#1)
    (hm : s.moves = .answer (.success is p) :: rest) :
    ∃ t, step s = .next t ∧ t.tfOut = some (decodeBlock b).pack ∧ t.tfv = true ∧ t.code = .ok ∧ t.done = true ∧
      t.chipPresence = true ∧ t.fsm = .idle ∧ t.moves = rest := by
  have hserve := serve_blockRead_still (s := { s with moves := rest }) (bs := b.toBytes) 7 p hlen
    (fun i hi => State.tickBefore_none (hstill i hi) _) (by simpa [hptr] using hread)
  have hstep := (step_served hm hq hserve).trans (respond_rdData_full (by exact hf) (b := b) rfl)
  rw [if_neg (by simp [hrun])] at hstep
  exact ⟨_, hstep, rfl, rfl, rfl, rfl, rfl, rfl, rfl⟩

theorem step_read {rest : List Move} (hi : s.fsm = .idle) (hm : s.moves = command 0x01#8 :: rest) :
    ∃ t, step s = .next t ∧ t.fsm = .rdPtr ∧ t.req = some (.ptrWrite 0x68#8 0x00#8) ∧ t.moves = rest ∧ t.chip = s.chip := by
  obtain ⟨hdecode, hissue, -⟩ := readTransaction
  exact ⟨_, (step_command hdecode hm).trans (hissue _ (by exact hi)), rfl, rfl, rfl, rfl⟩

/-- READ with both requests acknowledged, on a running chip that stands still. -/
theorem run_read {b : TimeBlock} {p1 p2 : Byte} {is : List ReadInstant} {rest : List Move} (hi : s.fsm = .idle)
    (hlen : is.length = 7) (hstill : ∀ i ∈ is, i.tick = none) (hread : ∀ k < 7, s.chip.read k = b.toBytes[k]?)
    (hrun : haltBit b.seconds = 0#1)
    (hm : s.moves = command 0x01#8 :: .answer (.success [] p1) :: .answer (.success is p2) :: rest) :
    ∃ t, Sys2Proof.core.run 3 s = .next t ∧ t.tfOut = some (decodeBlock b).pack ∧ t.tfv = true ∧ t.code = .ok ∧
      t.done = true ∧ t.chipPresence = true ∧ t.fsm = .idle ∧ t.moves = rest := by
  obtain ⟨t₁, hissue, hf₁, hq₁, hm₁, hc₁⟩ := step_read hi hm
  have hd₁ : t₁.dataStep = some (.rdData, .blockRead 0x68#8 7) := by simp only [State.dataStep, hf₁]; rfl
  obtain ⟨t₂, hpoint, hf₂, hq₂, hm₂, hc₂, hptr⟩ := step_ptrWrite_success hd₁ hq₁ hm₁
  obtain ⟨t₃, hdata, hend⟩ := step_rdData_success hf₂ hq₂ hptr hlen hstill (by rwa [hc₂, hc₁]) hrun hm₂
  refine ⟨t₃, ?_, hend⟩
  rw [run_succ hissue, run_succ hpoint, run_succ hdata]
  rfl

/-- Settles O48: WRITE leaves the encoded fields in the chip's time registers with CH 0, and READ decodes them to the fields
written. -/
theorem writeThenReadRoundTrip : Obligations.WriteThenReadRoundTrip := by
  intro s f is p1 p2 p3 p4 rest hs hi hvalid hlen hstill hm
  obtain ⟨t₁, hport, htfIn, hf₁, hm₁, hc₁⟩ := step_writeTfIn hm
  obtain ⟨t, hwrite, hidle, hmoves, hchip⟩ := run_write (hf₁.trans hi) htfIn hm₁
  have hread : ∀ k < 7, t.chip.read k = (writtenBlock t₁.draws f).toBytes[k]? := fun k hk => by
    rw [hchip, hc₁]
    exact read_assembleBlock s.chip t₁.draws f hk (hs.mem_addrs (by omega))
  obtain ⟨u, hreadRun, htf, htfv, hcode, hdone, hp, hfsm, hrest⟩ :=
    run_read hidle hlen hstill hread (haltBit_and_run _) hmoves
  have hrun : Sys2Proof.core.run 7 s = .next u := (run_succ hport).trans ((run_add hwrite 3).trans hreadRun)
  rw [decodeBlock_writtenBlock t₁.draws hvalid] at htf
  refine ⟨u, hrun, htf, htfv, hcode, ?_, hp, hfsm, hrest⟩
  rw [State.status_done hfsm hdone, htfv, hcode]
  rfl

/-! ### A failed phase 2 and ISRUNNING -/

theorem State.chipHalted_of_read {b : Byte} (h : s.chip.read 0 = some b) (hb : haltBit b = 1#1) : s.chipHalted = true := by
  simp only [State.chipHalted, h]
  exact beq_iff_eq.2 hb

theorem step_isrunning {rest : List Move} (hi : s.fsm = .idle) (hm : s.moves = command 0x03#8 :: rest) :
    ∃ t, step s = .next t ∧ t.fsm = .irPtr ∧ t.req = some (.ptrWrite 0x68#8 0x00#8) ∧ t.moves = rest ∧ t.chip = s.chip := by
  obtain ⟨hdecode, hissue, -⟩ := isrunningTransaction
  exact ⟨_, (step_command hdecode hm).trans (hissue _ (by exact hi)), rfl, rfl, rfl, rfl⟩

/-- The data step of ISRUNNING on a halted chip: Stopped, since no tick moves the byte it reads (41_transactions.md R167,
20_memory.md R59 item 5). -/
theorem step_irData_halted {b p : Byte} {i : ReadInstant} {rest : List Move} (hf : s.fsm = .irData)
    (hq : s.req = some (.blockRead 0x68#8 1)) (hptr : s.chipPtr = 0x00#8) (hread : s.chip.read 0 = some b)
    (hhalt : haltBit b = 1#1) (hm : s.moves = .answer (.success [i] p) :: rest) :
    ∃ t, step s = .next t ∧ t.res = some 0x0001#16 ∧ t.fsm = .idle ∧ t.done = true := by
  obtain ⟨-, -, -, hdata⟩ := isrunningTransaction
  have hserve := serve_blockRead_still (s := { s with moves := rest }) (bs := [b]) (is := [i]) 1 p rfl
    (fun j _ => State.tickBefore_halted j (State.chipHalted_of_read (by exact hread) hhalt))
    (by simpa [hptr] using hread)
  have hstep := (step_served hm hq hserve).trans ((hdata _ (by exact hf)).2.2 b [])
  rw [if_pos ((haltBit_eq_one_iff b).1 hhalt)] at hstep
  exact ⟨_, hstep, rfl, rfl, rfl⟩

/-- ISRUNNING with both requests acknowledged finds a halted chip Stopped. -/
theorem run_isrunning_halted {b p1 p2 : Byte} {i : ReadInstant} {rest : List Move} (hi : s.fsm = .idle)
    (hread : s.chip.read 0 = some b) (hhalt : haltBit b = 1#1)
    (hm : s.moves = command 0x03#8 :: .answer (.success [] p1) :: .answer (.success [i] p2) :: rest) :
    ∃ t, Sys2Proof.core.run 3 s = .next t ∧ t.res = some 0x0001#16 ∧ t.fsm = .idle ∧ t.done = true := by
  obtain ⟨t₁, hissue, hf₁, hq₁, hm₁, hc₁⟩ := step_isrunning hi hm
  have hd₁ : t₁.dataStep = some (.irData, .blockRead 0x68#8 1) := by simp only [State.dataStep, hf₁]; rfl
  obtain ⟨t₂, hpoint, hf₂, hq₂, hm₂, hc₂, hptr⟩ := step_ptrWrite_success hd₁ hq₁ hm₁
  obtain ⟨t₃, hdata, hend⟩ := step_irData_halted hf₂ hq₂ hptr (by rwa [hc₂, hc₁]) hhalt hm₂
  refine ⟨t₃, ?_, hend⟩
  rw [run_succ hissue, run_succ hpoint, run_succ hdata]
  rfl

/-- Phase 1 of WRITE acknowledged and phase 2 failed with nothing applied: the chip keeps the phase-1 image. -/
theorem run_phaseTwo_unapplied {sec2 p1 p2 : Byte} {bs : List Byte} {rest : List Move} (hf : s.fsm = .wrP1)
    (hl : s.latSec = some sec2) (hq : s.req = some (.blockWrite 0x68#8 0x00#8 bs))
    (hm : s.moves = .answer (.success [] p1) :: .answer (.failure 0 p2) :: rest) :
    ∃ t, Sys2Proof.core.run 2 s = .next t ∧ t.fsm = .idle ∧ t.code = .busErr ∧ t.chipPresence = false ∧ t.moves = rest ∧
      t.chip = s.chip.writeBytes 0 bs := by
  obtain ⟨t₁, hphase1, hf₁, hq₁, hm₁, hc₁⟩ := step_wrP1_success hf hl hq hm
  obtain ⟨t₂, hphase2, hf₂, hcode, hp, hm₂, hc₂⟩ := step_wrP2_unapplied hf₁ hq₁ hm₁
  refine ⟨t₂, ?_, hf₂, hcode, hp, hm₂, by rw [hc₂, hc₁]⟩
  rw [run_succ hphase1, run_succ hphase2]
  rfl

/-- The latch holds a byte while phase 1 is outstanding (10_state.md R22). -/
theorem State.requestFits.latched (hs : s.requestFits) (hf : s.fsm = .wrP1) : ∃ sec2, s.latSec = some sec2 := by
  simp only [State.requestFits, hf] at hs
  obtain ⟨e, fields, -, -, hl⟩ := hs
  exact ⟨_, hl⟩

/-- Settles O49: the image of phase 1 stays with CH set, which ISRUNNING reads back from the halted chip. -/
theorem phaseTwoFailureIsDetected : Obligations.PhaseTwoFailureIsDetected := by
  intro s e fields is p1 p2 p3 p4 rest hs hf hq hlen hm
  obtain ⟨i, rfl⟩ := List.length_eq_one_iff.1 hlen
  obtain ⟨sec2, hl⟩ := hs.request.latched hf
  obtain ⟨-, -, hend : 0 + ((e ||| 0x80#8) :: fields).length ≤ 8⟩ := hs.request.onChip hq
  obtain ⟨t, hrun, hidle, hcode, hp, hmoves, hchip⟩ := run_phaseTwo_unapplied hf hl hq hm
  have himage : ∀ k, (hk : k < ((e ||| 0x80#8) :: fields).length) →
      t.chip.read k = some ((e ||| 0x80#8) :: fields)[k] := fun k hk => by
    have hmem : 0 + k ∈ Memory.addrs s.chip := hs.mem_addrs (by omega)
    have hlanded := Memory.read_writeBytes_at s.chip 0 _ k hk hmem
    rwa [Nat.zero_add, ← hchip] at hlanded
  have hseconds : t.chip.read 0 = some (e ||| 0x80#8) := himage 0 (Nat.succ_pos _)
  have hhalt : haltBit (e ||| 0x80#8) = 1#1 := haltBit_or_halt e
  obtain ⟨u, hrunning, hfound⟩ := run_isrunning_halted hidle hseconds hhalt hmoves
  refine ⟨⟨t, hrun, hcode, hp, hidle, State.chipHalted_of_read hseconds hhalt, hseconds, fun k hk => ?_⟩, u, ?_, hfound⟩
  · exact himage (k + 1) (Nat.succ_lt_succ hk)
  · exact (run_add hrun 3).trans hrunning

end Sys2Proof.Machine
end
